-- ==== Sys2Proof/Word.lean ====
section
/-! DEFINITION. The one word of the block: an 8-bit byte (spec/00_scope.md R12). -/

namespace Sys2Proof

/-- A byte: 8 bits, value 0 to 255, unsigned; bit 0 is the least significant (R12). -/
abbrev Byte := BitVec 8

end Sys2Proof
end

