-- ==== Sys2Proof/Syntax.lean ====
section
/-! DEFINITION. The instructions: one constructor for each row of spec/opcode_table.json (eleven host
operations, R92, and eighteen display commands, R96), and the request records the block is given (R90). -/

namespace Sys2Proof

/-- The light sensor's gain setting (R32, R221). -/
inductive Gain where
  | low
  | medium
  | high
  | max
  deriving DecidableEq, Repr, Inhabited

/-- An instruction. Times and times of day are integer seconds (R18), `luxMin` an exact rational (R17). -/
inductive Instr where
  /-- INIT, code 0x01 (R152). -/
  | init
  /-- WRITE, code 0x02: intensity bytes, one per pixel, any finite number of them (R154). -/
  | write (data : List Byte)
  /-- DISPLAY, code 0x03 (R159). -/
  | display
  /-- ON, code 0x04 (R178). -/
  | on
  /-- OFF, code 0x05 (R179). -/
  | off
  /-- MEASURE, code 0x10 (R201). -/
  | measure
  /-- SETGI, code 0x20: gain, and integration steps 0..5 (R222). -/
  | setgi (gain : Gain) (itime : Nat)
  /-- LUX, code 0x21 (R224). -/
  | lux
  /-- CONFIG, code 0x30: two times of day and a threshold in lux (R251). -/
  | config (fromTod toTod : Int) (luxMin : Rat)
  /-- EVALUATE, code 0x31 (R252). -/
  | evaluate (now : Int)
  /-- DIMTICK, code 0x32 (R254). -/
  | dimtick (now : Int)
  /-- DISPLAYOFF, format C1 (R160). -/
  | displayoff
  /-- SETCLOCKDIV a, format C2 (R161). -/
  | setclockdiv (a : Byte)
  /-- SETMULTIPLEX a, format C2 (R162). -/
  | setmultiplex (a : Byte)
  /-- SETDISPLAYOFFSET a, format C2 (R163). -/
  | setdisplayoffset (a : Byte)
  /-- SETSTARTLINE n, format C1F, n in bits 5:0 (R164). -/
  | setstartline (n : BitVec 6)
  /-- CHARGEPUMP a, format C2 (R165). -/
  | chargepump (a : Byte)
  /-- MEMORYMODE a, format C2 (R166). -/
  | memorymode (a : Byte)
  /-- SEGREMAP r, format C1F, r in bit 0 (R167). -/
  | segremap (r : BitVec 1)
  /-- COMSCANDIR d, format C1F, d in bit 3 (R168). -/
  | comscandir (d : BitVec 1)
  /-- SETCOMPINS a, format C2 (R169). -/
  | setcompins (a : Byte)
  /-- SETCONTRAST a, format C2 (R170). -/
  | setcontrast (a : Byte)
  /-- SETPRECHARGE a, format C2 (R171). -/
  | setprecharge (a : Byte)
  /-- SETVCOMH a, format C2 (R172). -/
  | setvcomh (a : Byte)
  /-- RESUMERAM, format C1 (R173). -/
  | resumeram
  /-- NORMALDISPLAY, format C1 (R174). -/
  | normaldisplay
  /-- DISPLAYON, format C1 (R175). -/
  | displayon
  /-- COLUMNADDR a, b, format C3 (R176). -/
  | columnaddr (a b : Byte)
  /-- PAGEADDR a, b, format C3 (R177). -/
  | pageaddr (a b : Byte)
  deriving DecidableEq, Repr

/-- One operand field of a host request, before it is checked (R90, R93; log 1). -/
inductive Operand where
  /-- WRITE's intensity bytes. -/
  | bytes (l : List Byte)
  /-- A gain's index (low 0, medium 1, high 2, max 3), an integration step count, a time of day or a time. -/
  | num (n : Int)
  /-- A threshold in lux. -/
  | rat (q : Rat)
  deriving DecidableEq, Repr

/-- A host request `(code, operands)` (R90): all the host can issue (R60, R92). -/
structure HostRequest where
  code : Byte
  operands : List Operand
  deriving DecidableEq, Repr

/-- The words of the opcode table's two layers, which the decoder reads: a host request (R90), or the bytes of one
display command (R94), which no host can issue and which the encoder alone is given (log 4). -/
inductive Request where
  | op (code : Byte) (operands : List Operand)
  | command (bytes : List Byte)
  deriving DecidableEq, Repr

end Sys2Proof
end

