-- ==== Sys2Proof/Config.lean ====
section
/-! DEFINITION. What the spec leaves open: the parameters of spec/00_scope.md R10 as one record of plain data,
and the free values (constants with no body, of which nothing can be proved): the bus answers beyond the
script (R74), the two pin ids (R10, D6) and the number formats other than exact rationals (R17, D19). -/

namespace Sys2Proof

/-- The bytes a successful read brings back. The block's reads are 6 and 4 bytes long (R201, R224); a read
of `n` bytes takes the first `n` of these, so a reply is never short (R14, D2; log 7). -/
structure Reply where
  b0 : Byte
  b1 : Byte
  b2 : Byte
  b3 : Byte
  b4 : Byte
  b5 : Byte
  deriving DecidableEq, Repr, Inhabited

/-- The oracle's answer to one bus call (R14, R74): `error`, or success. A write, a transfer and a GPIO call
look only at which of the two it is; a read takes its bytes from the reply. -/
inductive BusAnswer where
  | error
  | ok (reply : Reply)
  deriving DecidableEq, Repr, Inhabited

/-- `PWR_FLAG_POLICY` (R10, R257). -/
inductive PwrFlagPolicy where
  | onSuccess
  | always
  deriving DecidableEq, Repr

/-- `NUM_ROUND` (R10, R17): the identity on exact rationals, or some other representation, named by a number
(log 10). -/
inductive NumRound where
  | identity
  | format (k : Nat)
  deriving DecidableEq, Repr

/-- `GAIN_CODE`, the map from gain to byte (R10, R102). -/
structure GainCode where
  low : Byte
  medium : Byte
  high : Byte
  max : Byte
  deriving DecidableEq, Repr

/-- The open parameters of R10. They are constants of a run (R42). -/
structure Params where
  /-- `PIN_RST`: the pin wired to the display's reset line. -/
  pinRst : Nat
  /-- `PIN_DC`: the pin wired to the display's data/command line; distinct from `pinRst`. -/
  pinDc : Nat
  /-- `DC_COMMAND_LEVEL`: the level of `pinDc` that means "command". -/
  dcCommandLevel : Bool
  /-- `COM_SCAN_BYTE`, 0xC0 or 0xC8, by its direction bit (R168). -/
  comScanDir : BitVec 1
  /-- `FB_RESET`: the framebuffer's content at reset. -/
  fbReset : Vector Byte 1024
  /-- `TH_ADDR`: an opaque bus address (R63). -/
  thAddr : Nat
  /-- `LIGHT_ADDR`: an opaque bus address (R63). -/
  lightAddr : Nat
  /-- `LIGHT_REG_ENABLE`. -/
  lightRegEnable : Byte
  /-- `LIGHT_REG_CONTROL`. -/
  lightRegControl : Byte
  /-- `LIGHT_REG_C0DATAL`. -/
  lightRegC0DataL : Byte
  /-- `GAIN_CODE`. -/
  gainCode : GainCode
  /-- `NUM_ROUND`. -/
  numRound : NumRound
  /-- `PWR_FLAG_POLICY`. -/
  pwrFlagPolicy : PwrFlagPolicy
  deriving DecidableEq, Repr

/-- R10's only condition on the parameters: the two pins differ. -/
def Params.wellFormed (p : Params) : Bool := p.pinDc != p.pinRst

/-- FREE VALUE (log 7): the answer to the bus call that is number `n` since reset, when the state holds no
scripted answer for it. -/
opaque Config.busAnswer : Nat → BusAnswer

/-- FREE VALUE (log 9): `PIN_RST`, which the spec says must be supplied and gives no default for. -/
opaque Config.pinRst : Nat

/-- FREE VALUE (log 9): which of the pins other than `PIN_RST` is `PIN_DC`. -/
opaque Config.pinDcIndex : Nat

/-- `PIN_DC`: any pin but `PIN_RST`, as R10 requires; the pins other than `PIN_RST` are counted from 0. -/
def Config.pinDc : Nat :=
  if Config.pinDcIndex < Config.pinRst then Config.pinDcIndex else Config.pinDcIndex + 1

/-- FREE VALUE (log 10): what number format `k` makes of an exact result; a function of the result alone. -/
opaque Config.numRoundFormat : Nat → Rat → Rat

end Sys2Proof
end

