-- ==== Sys2Proof/Machine/Defaults.lean ====
section
/-! DEFINITION. The parameters' suggested defaults (spec/00_scope.md R10), which State.reset takes; the pins
have none and are free values (log 8, log 9). -/

namespace Sys2Proof.Machine

/-- The spec's suggested default of every parameter that has one, for given pins (R10; log 8). -/
def defaultsWithPins (pinRst pinDc : Nat) : Params where
  pinRst := pinRst
  pinDc := pinDc
  dcCommandLevel := false
  comScanDir := 1#1
  fbReset := Vector.replicate 1024 0x00#8
  thAddr := 0x44
  lightAddr := 0x29
  lightRegEnable := 0xA0#8
  lightRegControl := 0xA1#8
  lightRegC0DataL := 0xB4#8
  gainCode := { low := 0x00#8, medium := 0x10#8, high := 0x20#8, max := 0x30#8 }
  numRound := .identity
  pwrFlagPolicy := .onSuccess

/-- The parameters at reset: the defaults, the pins left free (log 9). -/
def resetParams : Params := defaultsWithPins Config.pinRst Config.pinDc

end Sys2Proof.Machine
end

