-- ==== Sys2Proof/Machine/Memory.lean ====
section
/-! DEFINITION. The framebuffer as memory: a list of (address, byte) pairs in one canonical form (strictly
rising addresses below 1024, no byte equal to what an unlisted address reads as), over `FB_RESET`
(spec/10_state.md R20, spec/20_memory.md R61; log 11). -/

namespace Sys2Proof.Machine

/-- The framebuffer's listed bytes. -/
abbrev Memory := List Host.Cell

/-- What an unlisted address reads as: the reset content `FB_RESET` (R20, R43). -/
def unlisted (p : Params) (a : Nat) : Byte := p.fbReset[a]?.getD 0x00#8

/-- The byte listed at an address. -/
def Memory.lookup : Memory → Nat → Option Byte
  | [], _ => none
  | (b, v) :: m, a => if b = a then some v else Memory.lookup m a

/-- One byte of the framebuffer: `MemRead(a, 1)` (R13). Every `Fin 1024` is an address of it (R61). -/
def Memory.read (p : Params) (m : Memory) (a : Fin 1024) : Byte :=
  (Memory.lookup m a.val).getD (unlisted p a.val)

/-- Lists `v` at `a`, in address order, in the place of any byte listed there. -/
def Memory.put : Memory → Nat → Byte → Memory
  | [], a, v => [(a, v)]
  | (b, w) :: m, a, v =>
    if a < b then (a, v) :: (b, w) :: m
    else if b = a then (a, v) :: m
    else (b, w) :: Memory.put m a v

/-- Lists nothing at `a`. -/
def Memory.drop : Memory → Nat → Memory
  | [], _ => []
  | (b, w) :: m, a => if b = a then m else (b, w) :: Memory.drop m a

/-- `MemWrite(a, 1, [v])` (R13): a byte equal to what an unlisted address reads as is not listed. -/
def Memory.write (p : Params) (m : Memory) (a : Fin 1024) (v : Byte) : Memory :=
  if v = unlisted p a.val then Memory.drop m a.val else Memory.put m a.val v

/-- The canonical form. -/
abbrev Memory.wf (p : Params) (m : Memory) : Prop :=
  List.Pairwise (fun c d => c.1 < d.1) m ∧ ∀ c ∈ m, c.1 < 1024 ∧ c.2 ≠ unlisted p c.1

/-- `MemRead(0, 1024)` (R13, R68): every byte of the framebuffer, ascending. -/
def Memory.all (p : Params) (m : Memory) : List Byte := List.ofFn (Memory.read p m)

end Sys2Proof.Machine
end

