-- ==== Sys2Proof/Machine/State.lean ====
section
/-! DEFINITION. The machine's state as plain data (spec/10_state.md R20 to R43, spec/20_memory.md R73), the
record of a response (spec/30_encoding.md R90), and the state at reset (R43). -/

namespace Sys2Proof.Machine

/-- `PHASE`: the step of an operation's fixed sequence the block is at (R36). The names are those of the
operations' rules: R150 (dcCmd to dcData), R151 (rstHi1 to rstHi2), R205 (request to decode), R222 (write),
R230 (enable to compute); `read` stands in both R205 and R230, csOn to csOff in both R150 and R159. -/
inductive Phase where
  | idle
  | dcCmd
  | csOn
  | xfer
  | csOff
  | dcData
  | rstHi1
  | wait1
  | rstLo
  | wait10
  | rstHi2
  | request
  | convert
  | read
  | decode
  | write
  | enable
  | integrate
  | disable
  | compute
  deriving DecidableEq, Repr

/-- One event of the bus trace (R73): one kind for each primitive of R14 and R15. -/
inductive Event where
  | i2cWrite (addr : Nat) (bytes : List Byte)
  | i2cRead (addr n : Nat)
  | i2cWriteRead (addr : Nat) (wbytes : List Byte) (n : Nat)
  | spi (wbytes : List Byte)
  | cs (asserted : Bool)
  | gpio (pin : Nat) (outEn level : Bool)
  | delay (ms : Nat)
  deriving DecidableEq, Repr

/-- The status of a response (R307). A `BusTransactionError` carries the phase of the failing call (R309). -/
inductive Status where
  | ok
  | busTransactionError (phase : Phase)
  | configUnset
  | refused
  deriving DecidableEq, Repr

/-- The result fields of a response (R92). -/
inductive Results where
  | none
  | count (n : Nat)
  | measure (temperature humidity : Rat)
  | lux (lux : Rat)
  | window (nextEval : Int) (active : Bool)
  | tick (nextEval : Int) (active displayOn : Bool)
  /-- The encoder's bytes for one display command (R95; log 4). -/
  | bytes (l : List Byte)
  deriving DecidableEq, Repr

/-- An operation's response (R90): `log` holds the errors logged with `Log` (R16), in order. -/
structure Response where
  status : Status
  results : Results
  log : List Status
  deriving DecidableEq, Repr

/-- `NEXT_EVAL`: a time, or the value `due`, earlier than every time (R26). -/
inductive NextEval where
  | due
  | time (t : Int)
  deriving DecidableEq, Repr

/-- Why the machine could stop for good: nothing. No error halts the block (R312, R315), and every address
its operations compute exists (R79), so no constructor is needed. -/
inductive Fault where
  deriving DecidableEq, Repr

/-- Why a step can have no meaning. -/
inductive Refusal where
  /-- Raised by an arm of `exec` whose instruction has no meaning yet; safe. No arm is left so. -/
  | notModelled (mnemonic : String)
  /-- Raised by every request issued while `BUSY`, which "has no meaning; the model gives it no step" (R37); safe. No
  state between two operations has `BUSY`, so no run meets it. -/
  | whileBusy
  deriving DecidableEq, Repr

/-- The state of the block, its parameters, and the inputs from outside it. -/
structure State where
  /-- The parameters, constants of the run (R10, R42). -/
  cfg : Params
  /-- `FB` (R20). -/
  fb : Memory
  /-- `CUR_X` (R22). -/
  curX : Fin 128
  /-- `CUR_Y` (R22). -/
  curY : Fin 64
  /-- `GAIN` (R32). -/
  gain : Option Gain
  /-- `ITIME` (R33). -/
  itime : Option Nat
  /-- `FROM` (R30). -/
  fromTod : Option Int
  /-- `TO` (R30). -/
  toTod : Option Int
  /-- `LUX_MIN` (R31). -/
  luxMin : Option Rat
  /-- `NEXT_EVAL` (R26). -/
  nextEval : NextEval
  /-- `LUX_ACTIVE` (R27). -/
  luxActive : Bool
  /-- `DISPLAY_ON` (R28). -/
  displayOn : Bool
  /-- `PHASE` (R36). -/
  phase : Phase
  /-- `BUSY` (R37). -/
  busy : Bool
  /-- The bus trace, oldest event first (R73). -/
  trace : List Event
  /-- The latest response; none before the first (R90; log 12). -/
  response : Option Response
  /-- The answers taken so far, oldest first: the k-th belongs to the k-th answered event of the trace (R73, R74). -/
  answers : List BusAnswer
  /-- The model's own field (log 6): the requests the host will issue, the next one first (R8). -/
  requests : List HostRequest
  /-- The model's own field (log 4): the bytes of one display command given to the encoder on its own, outside the
  block's operation; none in every run of the block, since no step fills it. -/
  bench : Option (List Byte)
  /-- The model's own field (log 7): scripted answers to the coming bus calls, the next one first (R74). -/
  oracle : List BusAnswer
  /-- The model's own field (log 7): how many bus calls have been answered since reset. -/
  asked : Nat
  deriving DecidableEq, Repr

/-- The state right after reset of the block (R43, R340). -/
def State.reset : State where
  cfg := resetParams
  fb := []
  curX := 0
  curY := 0
  gain := none
  itime := none
  fromTod := none
  toTod := none
  luxMin := none
  nextEval := .due
  luxActive := false
  displayOn := true
  phase := .idle
  busy := false
  trace := []
  response := none
  answers := []
  requests := []
  bench := none
  oracle := []
  asked := 0

end Sys2Proof.Machine
end

