-- ==== Sys2Proof/Machine/Operands.lean ====
section
/-! DEFINITION. The pure computations of the operations: pixel address and packing (spec/40_display.md R155,
spec/20_memory.md R62), raw sensor values (spec/30_encoding.md R103), the two conversions
(spec/41_temp_humidity.md R202, spec/42_light.md R227, R228), and the time window (spec/43_dimming.md R252). -/

namespace Sys2Proof.Machine

/-- A pixel is lit iff its intensity is greater than `THRESHOLD` = 64 (R9, R104). -/
def pixelLit (v : Byte) : Bool := decide (64 < v.toNat)

/-- `pix_byte(x, y)` (R62). -/
def pixByte (x : Fin 128) (y : Fin 64) : Fin 1024 := ⟨y.val / 8 * 128 + x.val, by omega⟩

/-- `pix_bit(x, y)` (R62). -/
def pixBit (y : Fin 64) : Nat := y.val % 8

/-- The byte with bit `k` assigned: set when lit, cleared otherwise (R155). -/
def assignBit (old : Byte) (k : Nat) (lit : Bool) : Byte :=
  if lit then old ||| (1#8 <<< k) else old &&& (0xFF#8 - (1#8 <<< k))

/-- A 16-bit number from its high and its low byte (R103). -/
def word16 (hi lo : Byte) : Nat := (hi.toNat <<< 8) ||| lo.toNat

/-- TH_DECODE (R202); bytes 2 and 5 are not read (R203). -/
def thDecode (b : Reply) : Rat × Rat :=
  let rawT : Rat := (word16 b.b0 b.b1 : Nat)
  let rawRh : Rat := (word16 b.b3 b.b4 : Nat)
  (-45 + 175 * rawT / 65535, -6 + 125 * rawRh / 65535)

/-- The gain factor (R221). -/
def gainFactor : Gain → Nat
  | .low => 1
  | .medium => 25
  | .high => 428
  | .max => 9876

/-- `integration_ms` (R221). -/
def integrationMs (itime : Nat) : Nat := (itime + 1) * 100

/-- LUX's wait in milliseconds (R221, R224). -/
def luxWait (itime : Nat) : Nat := (itime + 1) * 100 + 20

/-- `cpl` (R227). -/
def cpl (gain : Gain) (itime : Nat) : Rat :=
  ((integrationMs itime : Nat) : Rat) * ((gainFactor gain : Nat) : Rat) / 408

/-- LUX_FORMULA: 0 for a zero channel 0 (R228), else the document's formula over the rationals (R227). -/
def luxFormula (gain : Gain) (itime ch0 ch1 : Nat) : Rat :=
  if ch0 = 0 then 0
  else ((ch0 : Rat) - (ch1 : Rat)) * (1 - (ch1 : Rat) / (ch0 : Rat)) / cpl gain itime

/-- Light channel 0 of a reply: little-endian (R103). -/
def channel0 (b : Reply) : Nat := word16 b.b1 b.b0

/-- Light channel 1 of a reply: little-endian (R103). -/
def channel1 (b : Reply) : Nat := word16 b.b3 b.b2

/-- `GAIN_CODE[gain]` (R10). -/
def gainCodeOf (c : GainCode) : Gain → Byte
  | .low => c.low
  | .medium => c.medium
  | .high => c.high
  | .max => c.max

/-- The light control byte (R102). -/
def controlByte (c : GainCode) (gain : Gain) (itime : Nat) : Byte :=
  gainCodeOf c gain ||| BitVec.ofNat 8 itime

/-- `NUM_ROUND(q)` (R17). -/
def roundResult : NumRound → Rat → Rat
  | .identity, q => q
  | .format k, q => Config.numRoundFormat k q

/-- `day0(t)`, the midnight that starts the day of `t` (R18); `%` is the floor remainder here (R260). -/
def day0 (t : Int) : Int := t - t % 86400

/-- WINDOW (R252): whether the lux check is active at `now`, and until when. -/
def windowAt (fromTod toTod now : Int) : Bool × Int :=
  let toToday := day0 now + toTod
  let fromToday := day0 now + fromTod
  if now < toToday then (true, toToday)
  else if now < fromToday then (false, fromToday)
  else (true, toToday + 86400)

/-- The due test (R253). -/
def isDue (nextEval : NextEval) (now : Int) : Bool :=
  match nextEval with
  | .due => true
  | .time t => decide (t ≤ now)

/-- The enable and disable values of the light sensor (R9, R100). -/
def lightEnable : Byte := 0x03#8
def lightDisable : Byte := 0x00#8

/-- The measurement request of the temperature/humidity sensor (R9, R99). -/
def thCmdMeasure : Byte := 0xFD#8

/-- The command bytes of ON and OFF (R9, R178, R179). -/
def cmdDisplayOn : Byte := 0xAF#8
def cmdDisplayOff : Byte := 0xAE#8

end Sys2Proof.Machine
end

