-- ==== Sys2Proof/Machine/Flags.lean ====
section
/-! DEFINITION. The block's two status flags (spec/10_state.md R29): no condition codes exist. `LUX_ACTIVE` is
what the window says (R252); `DISPLAY_ON` follows a power command by `PWR_FLAG_POLICY` (R257). -/

namespace Sys2Proof.Machine

/-- `DISPLAY_ON` after a power command that was to make it `wanted` (R257): updated when the command succeeded,
or whatever happened if the policy is `always`. -/
def powerFlagAfter (policy : PwrFlagPolicy) (result : Except Status Unit) (wanted old : Bool) : Bool :=
  match result, policy with
  | .ok _, _ => wanted
  | .error _, .always => wanted
  | .error _, .onSuccess => old

end Sys2Proof.Machine
end

