-- ==== Sys2Proof/Machine/Ops.lean ====
section
/-! DEFINITION. The named operations every meaning is built from: framebuffer and cursor access, the bus
primitives with their answers (spec/00_scope.md R14, R15), how an operation starts, ends and reports an error
(spec/60_exceptions.md R306, R311 to R315), and the transfers that several operations share: WRITECMD, HWRESET
and DISPLAY (spec/40_display.md R150, R151, R159). -/

namespace Sys2Proof.Machine

/-- What an operation inside another one gives back: its result or the status that ended it, and the state. -/
abbrev Ran (α : Type) := Except Status α × State

/-! ### Framebuffer and cursor -/

/-- `fb[a]` (R13). -/
def State.fbByte (s : State) (a : Fin 1024) : Byte := Memory.read s.cfg s.fb a

/-- `MemRead(0, 1024)` (R68). -/
def State.frame (s : State) : List Byte := Memory.all s.cfg s.fb

/-- The pixel (x, y) of the framebuffer (R21, R62). -/
def State.pixel (s : State) (x : Fin 128) (y : Fin 64) : Bool :=
  (s.fbByte (pixByte x y)).getLsbD (pixBit y)

/-- STORE_PIXEL (R155). -/
def State.storePixel (s : State) (v : Byte) : State :=
  let a := pixByte s.curX s.curY
  { s with fb := Memory.write s.cfg s.fb a (assignBit (s.fbByte a) (pixBit s.curY) (pixelLit v)) }

/-- Whether the next ADVANCE wraps past row 63 (R156). -/
def State.atFrameEnd (s : State) : Bool := decide (s.curX.val = 127) && decide (s.curY.val = 63)

/-- ADVANCE (R156); it returns true where `atFrameEnd` held before. -/
def State.advance (s : State) : State :=
  if h : s.curX.val < 127 then { s with curX := ⟨s.curX.val + 1, by omega⟩ }
  else if h' : s.curY.val < 63 then { s with curX := 0, curY := ⟨s.curY.val + 1, by omega⟩ }
  else { s with curX := 0, curY := 0 }

/-! ### The other registers -/

/-- `GAIN` and `ITIME`, always written together (R33). -/
def State.storeGain (s : State) (gain : Gain) (itime : Nat) : State :=
  { s with gain := some gain, itime := some itime }

/-- `FROM`, `TO` and `LUX_MIN`, always written together, and the window made due (R31, R251). -/
def State.loadConfig (s : State) (fromTod toTod : Int) (luxMin : Rat) : State :=
  { s with fromTod := some fromTod, toTod := some toTod, luxMin := some luxMin, nextEval := .due }

/-- `LUX_ACTIVE` and `NEXT_EVAL`, as a recompute leaves them (R254). -/
def State.setWindow (s : State) (active : Bool) (ne : Int) : State :=
  { s with luxActive := active, nextEval := .time ne }

/-- `DISPLAY_ON` (R28). -/
def State.setDisplayOn (s : State) (on : Bool) : State := { s with displayOn := on }

/-! ### Bus primitives -/

/-- `PHASE` moves (R36). -/
def State.inPhase (s : State) (p : Phase) : State := { s with phase := p }

/-- Appends an event that has no answer, at a phase (R73, R36). -/
def State.emit (s : State) (p : Phase) (e : Event) : State :=
  { s with phase := p, trace := s.trace ++ [e] }

/-- The oracle's answer to the next bus call: the next scripted one, or a free value (R74; log 7). -/
def State.answer (s : State) : BusAnswer :=
  match s.oracle with
  | a :: _ => a
  | [] => Config.busAnswer s.asked

/-- Appends an event that is answered, and takes its answer away from what is to come (R73). -/
def State.ask (s : State) (p : Phase) (e : Event) : State :=
  { s with
      phase := p, trace := s.trace ++ [e], answers := s.answers ++ [s.answer], oracle := s.oracle.tail,
      asked := s.asked + 1 }

/-- `ok | error` as the outcome of the call at phase `p` (R301, R309). -/
def answerUnit (a : BusAnswer) (p : Phase) : Except Status Unit :=
  match a with
  | .error => .error (.busTransactionError p)
  | .ok _ => .ok ()

/-- `bytes | error` as the outcome of the call at phase `p`. -/
def answerReply (a : BusAnswer) (p : Phase) : Except Status Reply :=
  match a with
  | .error => .error (.busTransactionError p)
  | .ok r => .ok r

/-- `Bus.write` (R14). -/
def busWrite (p : Phase) (addr : Nat) (bytes : List Byte) (s : State) : Ran Unit :=
  (answerUnit s.answer p, s.ask p (.i2cWrite addr bytes))

/-- `Bus.read` (R14). -/
def busRead (p : Phase) (addr n : Nat) (s : State) : Ran Reply :=
  (answerReply s.answer p, s.ask p (.i2cRead addr n))

/-- `Bus.write_then_read` (R14, R77). -/
def busWriteThenRead (p : Phase) (addr : Nat) (wbytes : List Byte) (n : Nat) (s : State) : Ran Reply :=
  (answerReply s.answer p, s.ask p (.i2cWriteRead addr wbytes n))

/-- `Bus.spi_transfer`, with an empty read buffer (R14, R65). -/
def spiTransfer (p : Phase) (wbytes : List Byte) (s : State) : Ran Unit :=
  (answerUnit s.answer p, s.ask p (.spi wbytes))

/-- `Bus.set_gpio`, always with the output enabled (R14, R66). -/
def setGpio (p : Phase) (pin : Nat) (level : Bool) (s : State) : Ran Unit :=
  (answerUnit s.answer p, s.ask p (.gpio pin true level))

/-- `Bus.set_cs`, which cannot fail (R14). -/
def setCs (p : Phase) (asserted : Bool) (s : State) : State := s.emit p (.cs asserted)

/-- `Delay`, recorded and not counted (R15; log 16). -/
def delay (p : Phase) (ms : Nat) (s : State) : State := s.emit p (.delay ms)

/-! ### Start, end and error entry of an operation -/

/-- An operation begins: `BUSY` (R37). -/
def State.begin (s : State) : State := { s with busy := true }

/-- An operation ends, with or without an error: `PHASE` is idle, `BUSY` false, the response given. An error
saves and switches nothing else (R312), and there is nothing to return from or restore (R315). -/
def State.finish (s : State) (r : Response) : State :=
  { s with phase := .idle, busy := false, response := some r }

/-- A request with a reserved code or an operand outside its type: no event, no state change, a response with status
`Refused` (R106, R107, R306). -/
def State.refuse (s : State) : State := { s with response := some ⟨.refused, .none, []⟩ }

/-- Nothing can be requested while another operation is in progress: there is no such step (R37). -/
def whenIdle (s t : State) : Host.Outcome State Fault Refusal :=
  if s.busy then .refused .whileBusy else .next t

/-- One operation as one step (R36, log 2): the refusals are tested first (R311), for a request while another
operation is in progress (R37) and for operands outside their types (R107). -/
def operation (legal : Bool) (body : State → Response × State) (s : State) :
    Host.Outcome State Fault Refusal :=
  whenIdle s (if legal then (body s.begin).2.finish (body s.begin).1 else s.refuse)

/-- The response of an operation that has no results (R92): error entry is the status alone (R312). -/
def responseOf (r : Except Status Unit) : Response :=
  match r with
  | .ok _ => ⟨.ok, .none, []⟩
  | .error e => ⟨e, .none, []⟩

/-- The 8-bit code of a status (R307). -/
def statusCode : Status → Byte
  | .ok => 0x00#8
  | .busTransactionError _ => 0x01#8
  | .configUnset => 0x02#8
  | .refused => 0x03#8

/-- What `Log` appends for a result: nothing for `ok`, else the error (R16). -/
def logged (r : Except Status Unit) : List Status :=
  match r with
  | .ok _ => []
  | .error e => [e]

/-- ConfigUnset: no event, no state change, the status in the response (R306). -/
def configUnset : Response := ⟨.configUnset, .none, []⟩

/-- An operation without results, from what it ran. -/
def plain (run : State → Ran Unit) (s : State) : Response × State :=
  (responseOf (run s).1, (run s).2)

/-! ### Shared transfers of the Display unit -/

/-- WRITECMD (R150). -/
def writeCmd (l : List Byte) (s : State) : Ran Unit :=
  match setGpio .dcCmd s.cfg.pinDc s.cfg.dcCommandLevel s with
  | (.error e, s1) => (.error e, s1)
  | (.ok _, s1) =>
    let s2 := setCs .csOn true s1
    let x := spiTransfer .xfer l s2
    let s3 := setCs .csOff false x.2
    let d := setGpio .dcData s3.cfg.pinDc (!s3.cfg.dcCommandLevel) s3
    match x.1 with
    | .error e => (.error e, d.2)
    | .ok _ => d

/-- HWRESET (R151). -/
def hwReset (s : State) : Ran Unit :=
  match setGpio .rstHi1 s.cfg.pinRst true s with
  | (.error e, s1) => (.error e, s1)
  | (.ok _, s1) =>
    match setGpio .rstLo s1.cfg.pinRst false (delay .wait1 1 s1) with
    | (.error e, s2) => (.error e, s2)
    | (.ok _, s2) => setGpio .rstHi2 s2.cfg.pinRst true (delay .wait10 10 s2)

/-- DISPLAY's transfer, also the automatic flush of WRITE (R157, R159). -/
def sendFrame (s : State) : Ran Unit :=
  let x := spiTransfer .xfer s.frame (setCs .csOn true s)
  (x.1, setCs .csOff false x.2)

/-! ### Fetching a request -/

/-- Takes the next request of the host, if there is one (R8, R90; log 6); a display command on the encoder's bench
comes before it (log 4). -/
def State.fetch (s : State) : Option (Request × State) :=
  match s.bench, s.requests with
  | some bytes, _ => some (.command bytes, { s with bench := none })
  | none, r :: rest => some (.op r.code r.operands, { s with requests := rest })
  | none, [] => none

/-- With no request the block is idle and waits (R341; log 6). -/
def waitForHost (s : State) : Host.Outcome State Fault Refusal := .next s

/-- A request that decodes to no instruction is refused (R106, R107; for the encoder's bench log 4). -/
def rejectRequest (s : State) : Host.Outcome State Fault Refusal := whenIdle s s.refuse

end Sys2Proof.Machine
end

