-- ==== Sys2Proof/Machine/Climate.lean ====
section
/-! DEFINITION. The temperature/humidity sequencer: MEASURE (spec/41_temp_humidity.md). -/

namespace Sys2Proof.Machine

/-- MEASURE's sequence (R201, R205): request, 10 ms, 6-byte read, decode. -/
def measureBody (s : State) : Response × State :=
  match busWrite .request s.cfg.thAddr [thCmdMeasure] s with
  | (.error e, s1) => (⟨e, .none, []⟩, s1)
  | (.ok _, s1) =>
    match busRead .read s1.cfg.thAddr 6 (delay .convert 10 s1) with
    | (.error e, s2) => (⟨e, .none, []⟩, s2)
    | (.ok b, s2) =>
      let r := thDecode b
      (⟨.ok, .measure (roundResult s2.cfg.numRound r.1) (roundResult s2.cfg.numRound r.2), []⟩,
        s2.inPhase .decode)

/-- MEASURE (R201). -/
def execMeasure (s : State) : Host.Outcome State Fault Refusal := operation true measureBody s

end Sys2Proof.Machine
end

