-- ==== Sys2Proof/WellFormed.lean ====
section
/-! DEFINITION. Which instructions have operands inside their types (R92, R107). -/

namespace Sys2Proof

/-- A time of day: an integer in 0..86399 (R18). -/
def isTimeOfDay (t : Int) : Bool := decide (0 ≤ t) && decide (t < 86400)

/-- The operand ranges of R107: SETGI's integration steps are 0..5, CONFIG's boundaries times of day. All
other operands are held in types that have no illegal value. -/
def Instr.wellFormed : Instr → Bool
  | .setgi _ itime => decide (itime ≤ 5)
  | .config fromTod toTod _ => isTimeOfDay fromTod && isTimeOfDay toTod
  | .init | .write _ | .display | .on | .off | .measure | .lux | .evaluate _ | .dimtick _ => true
  | .displayoff | .setclockdiv _ | .setmultiplex _ | .setdisplayoffset _ | .setstartline _ => true
  | .chargepump _ | .memorymode _ | .segremap _ | .comscandir _ | .setcompins _ | .setcontrast _ => true
  | .setprecharge _ | .setvcomh _ | .resumeram | .normaldisplay | .displayon => true
  | .columnaddr _ _ | .pageaddr _ _ => true

end Sys2Proof
end

