-- ==== Sys2Proof/Decode.lean ====
section
/-! DEFINITION. Decoding and encoding: host requests by their code (spec/30_encoding.md R91, R92, R106, R107),
display commands by match and mask on byte 0 (R94 to R97); and the words of spec/opcode_table.json. -/

namespace Sys2Proof

/-- Why a request is no instruction. -/
inductive Reject where
  /-- A host code that R92 does not list (R106). -/
  | reservedCode (code : Byte)
  /-- Operand fields other than those fixed for the code (R91; log 1). -/
  | operandFields
  /-- SETGI with a gain outside its type (R107). -/
  | gainOutOfRange
  /-- SETGI with an integration step count outside 0..5 (R107). -/
  | itimeOutOfRange
  /-- CONFIG with a boundary outside 0..86399 (R107). -/
  | timeOfDayOutOfRange
  /-- A byte that begins no command of R96 (R108). -/
  | unknownCommand (byte : Byte)
  /-- A command with more or fewer parameter bytes than its format has (R94, R97). -/
  | commandLength
  deriving DecidableEq, Repr

/-! ### Display commands -/

/-- A command of format C1 or C1F: byte 0 is all of it (R97). -/
def noParameter (i : Instr) (rest : List Byte) : Except Reject (Instr × List Byte) := .ok (i, rest)

/-- A command of format C2: one parameter byte follows, whatever it is (R97). -/
def oneParameter (i : Byte → Instr) (rest : List Byte) : Except Reject (Instr × List Byte) :=
  match rest with
  | a :: rest => .ok (i a, rest)
  | [] => .error .commandLength

/-- A command of format C3: two parameter bytes follow (R97). -/
def twoParameters (i : Byte → Byte → Instr) (rest : List Byte) : Except Reject (Instr × List Byte) :=
  match rest with
  | a :: b :: rest => .ok (i a b, rest)
  | _ => .error .commandLength

/-- The first display command of a list of bytes, and the bytes after it: the rows of R96, in its order. -/
def decodeFirst (bytes : List Byte) : Except Reject (Instr × List Byte) :=
  match bytes with
  | [] => .error .commandLength
  | op :: rest =>
    if op &&& 0xFF#8 = 0xAE#8 then noParameter .displayoff rest
    else if op &&& 0xFF#8 = 0xD5#8 then oneParameter .setclockdiv rest
    else if op &&& 0xFF#8 = 0xA8#8 then oneParameter .setmultiplex rest
    else if op &&& 0xFF#8 = 0xD3#8 then oneParameter .setdisplayoffset rest
    else if op &&& 0xC0#8 = 0x40#8 then noParameter (.setstartline (op.extractLsb' 0 6)) rest
    else if op &&& 0xFF#8 = 0x8D#8 then oneParameter .chargepump rest
    else if op &&& 0xFF#8 = 0x20#8 then oneParameter .memorymode rest
    else if op &&& 0xFE#8 = 0xA0#8 then noParameter (.segremap (op.extractLsb' 0 1)) rest
    else if op &&& 0xF7#8 = 0xC0#8 then noParameter (.comscandir (op.extractLsb' 3 1)) rest
    else if op &&& 0xFF#8 = 0xDA#8 then oneParameter .setcompins rest
    else if op &&& 0xFF#8 = 0x81#8 then oneParameter .setcontrast rest
    else if op &&& 0xFF#8 = 0xD9#8 then oneParameter .setprecharge rest
    else if op &&& 0xFF#8 = 0xDB#8 then oneParameter .setvcomh rest
    else if op &&& 0xFF#8 = 0xA4#8 then noParameter .resumeram rest
    else if op &&& 0xFF#8 = 0xA6#8 then noParameter .normaldisplay rest
    else if op &&& 0xFF#8 = 0xAF#8 then noParameter .displayon rest
    else if op &&& 0xFF#8 = 0x21#8 then twoParameters .columnaddr rest
    else if op &&& 0xFF#8 = 0x22#8 then twoParameters .pageaddr rest
    else .error (.unknownCommand op)

/-- One display command and nothing after it. Bytes that begin no command, or too few or too many of them, are outside
the spec (R108, U26): that they are rejected here, and then answered `Refused`, is the MODEL'S CHOICE (log 4). -/
def decodeCommand (bytes : List Byte) : Except Reject Instr :=
  match decodeFirst bytes with
  | .ok (i, []) => .ok i
  | .ok (_, _ :: _) => .error .commandLength
  | .error e => .error e

/-- Reads a burst back into commands, at most `fuel` of them (R97). -/
def parseCommands (fuel : Nat) (bytes : List Byte) : Except Reject (List Instr) :=
  match fuel, bytes with
  | _, [] => .ok []
  | 0, _ :: _ => .error .commandLength
  | fuel + 1, b :: bs =>
    match decodeFirst (b :: bs) with
    | .error e => .error e
    | .ok (i, rest) =>
      match parseCommands fuel rest with
      | .error e => .error e
      | .ok is => .ok (i :: is)

/-- Reads a whole burst back into its commands (R97). -/
def parseBurst (bytes : List Byte) : Except Reject (List Instr) := parseCommands bytes.length bytes

/-! ### Host requests -/

/-- The gain with a given index (log 1). -/
def gainOfIndex (n : Int) : Option Gain :=
  if n = 0 then some .low
  else if n = 1 then some .medium
  else if n = 2 then some .high
  else if n = 3 then some .max
  else none

/-- A gain's index (log 1). -/
def gainIndex : Gain → Int
  | .low => 0
  | .medium => 1
  | .high => 2
  | .max => 3

/-- An operation without operands (R92). -/
def decodeBare (i : Instr) (operands : List Operand) : Except Reject Instr :=
  match operands with
  | [] => .ok i
  | _ => .error .operandFields

/-- WRITE's operand (R92). -/
def decodeWrite (operands : List Operand) : Except Reject Instr :=
  match operands with
  | [.bytes data] => .ok (.write data)
  | _ => .error .operandFields

/-- SETGI's operands (R92, R107). -/
def decodeSetgi (operands : List Operand) : Except Reject Instr :=
  match operands with
  | [.num g, .num t] =>
    match gainOfIndex g with
    | none => .error .gainOutOfRange
    | some gain => if 0 ≤ t ∧ t ≤ 5 then .ok (.setgi gain t.toNat) else .error .itimeOutOfRange
  | _ => .error .operandFields

/-- CONFIG's operands (R92, R107). -/
def decodeConfig (operands : List Operand) : Except Reject Instr :=
  match operands with
  | [.num f, .num t, .rat q] =>
    if isTimeOfDay f && isTimeOfDay t then .ok (.config f t q) else .error .timeOfDayOutOfRange
  | _ => .error .operandFields

/-- The operand `now` of EVALUATE and DIMTICK (R92). -/
def decodeNow (i : Int → Instr) (operands : List Operand) : Except Reject Instr :=
  match operands with
  | [.num now] => .ok (i now)
  | _ => .error .operandFields

/-- A host request `(code, operands)`: the whole 8-bit code is the match (R91, R92, R106). -/
def decodeOp (code : Byte) (operands : List Operand) : Except Reject Instr :=
  if code = 0x01#8 then decodeBare .init operands
  else if code = 0x02#8 then decodeWrite operands
  else if code = 0x03#8 then decodeBare .display operands
  else if code = 0x04#8 then decodeBare .on operands
  else if code = 0x05#8 then decodeBare .off operands
  else if code = 0x10#8 then decodeBare .measure operands
  else if code = 0x20#8 then decodeSetgi operands
  else if code = 0x21#8 then decodeBare .lux operands
  else if code = 0x30#8 then decodeConfig operands
  else if code = 0x31#8 then decodeNow .evaluate operands
  else if code = 0x32#8 then decodeNow .dimtick operands
  else .error (.reservedCode code)

/-- The instruction a request stands for, or why it stands for none; total on every request. -/
def decode (r : Request) : Except Reject Instr :=
  match r with
  | .op code operands => decodeOp code operands
  | .command bytes => decodeCommand bytes

/-! ### The encoder -/

/-- `enc`, the bytes of a display command (R95, R96); a host operation has none. -/
def commandBytes : Instr → List Byte
  | .displayoff => [0xAE#8]
  | .setclockdiv a => [0xD5#8, a]
  | .setmultiplex a => [0xA8#8, a]
  | .setdisplayoffset a => [0xD3#8, a]
  | .setstartline n => [0x40#8 ||| n.setWidth 8]
  | .chargepump a => [0x8D#8, a]
  | .memorymode a => [0x20#8, a]
  | .segremap r => [0xA0#8 ||| r.setWidth 8]
  | .comscandir d => [0xC0#8 ||| (d.setWidth 8 <<< 3)]
  | .setcompins a => [0xDA#8, a]
  | .setcontrast a => [0x81#8, a]
  | .setprecharge a => [0xD9#8, a]
  | .setvcomh a => [0xDB#8, a]
  | .resumeram => [0xA4#8]
  | .normaldisplay => [0xA6#8]
  | .displayon => [0xAF#8]
  | .columnaddr a b => [0x21#8, a, b]
  | .pageaddr a b => [0x22#8, a, b]
  | .init | .write _ | .display | .on | .off | .measure | .setgi _ _ | .lux => []
  | .config _ _ _ | .evaluate _ | .dimtick _ => []

/-- The request that stands for an instruction (R92, R96). -/
def encode : Instr → Request
  | .init => .op 0x01#8 []
  | .write data => .op 0x02#8 [.bytes data]
  | .display => .op 0x03#8 []
  | .on => .op 0x04#8 []
  | .off => .op 0x05#8 []
  | .measure => .op 0x10#8 []
  | .setgi gain itime => .op 0x20#8 [.num (gainIndex gain), .num itime]
  | .lux => .op 0x21#8 []
  | .config fromTod toTod luxMin => .op 0x30#8 [.num fromTod, .num toTod, .rat luxMin]
  | .evaluate now => .op 0x31#8 [.num now]
  | .dimtick now => .op 0x32#8 [.num now]
  | .displayoff => .command (commandBytes .displayoff)
  | .setclockdiv a => .command (commandBytes (.setclockdiv a))
  | .setmultiplex a => .command (commandBytes (.setmultiplex a))
  | .setdisplayoffset a => .command (commandBytes (.setdisplayoffset a))
  | .setstartline n => .command (commandBytes (.setstartline n))
  | .chargepump a => .command (commandBytes (.chargepump a))
  | .memorymode a => .command (commandBytes (.memorymode a))
  | .segremap r => .command (commandBytes (.segremap r))
  | .comscandir d => .command (commandBytes (.comscandir d))
  | .setcompins a => .command (commandBytes (.setcompins a))
  | .setcontrast a => .command (commandBytes (.setcontrast a))
  | .setprecharge a => .command (commandBytes (.setprecharge a))
  | .setvcomh a => .command (commandBytes (.setvcomh a))
  | .resumeram => .command (commandBytes .resumeram)
  | .normaldisplay => .command (commandBytes .normaldisplay)
  | .displayon => .command (commandBytes .displayon)
  | .columnaddr a b => .command (commandBytes (.columnaddr a b))
  | .pageaddr a b => .command (commandBytes (.pageaddr a b))

/-! ### The words of spec/opcode_table.json (log 5) -/

/-- Byte `k` of a word, byte 0 the least significant. -/
def wordByte (w k : Nat) : Byte := BitVec.ofNat 8 (w / 256 ^ k)

/-- The bytes of one display command at the start of a word, as many as its byte 0 asks for (R97). -/
def commandWindow (w : Nat) : List Byte :=
  match decodeFirst [wordByte w 0, wordByte w 1, wordByte w 2] with
  | .ok (_, rest) => [wordByte w 0, wordByte w 1, wordByte w 2].take (3 - rest.length)
  | .error _ => [wordByte w 0]

/-- The operand fields of a code with every bit zero: no intensity bytes, gain low, times and threshold 0. -/
def zeroOperands (code : Byte) : List Operand :=
  if code = 0x02#8 then [.bytes []]
  else if code = 0x20#8 then [.num 0, .num 0]
  else if code = 0x30#8 then [.num 0, .num 0, .rat 0]
  else if code = 0x31#8 ∨ code = 0x32#8 then [.num 0]
  else []

/-- Whether a code is one of R92. -/
def isHostCode (code : Byte) : Bool :=
  match decodeOp code (zeroOperands code) with
  | .ok _ => true
  | .error _ => false

/-- The request a table word of `nbits` bits stands for. A row of one byte whose code is of R92 is a host
request; any other word is a display command where its byte 0 begins one, else a host request (log 5). -/
def tableRequest (nbits w : Nat) : Request :=
  let code := wordByte w 0
  if nbits ≤ 8 && isHostCode code then .op code (zeroOperands code)
  else
    match decodeFirst [wordByte w 0, wordByte w 1, wordByte w 2] with
    | .ok _ => .command (commandWindow w)
    | .error _ => .op code (zeroOperands code)

/-- The instruction the decoder reads from a table word of `nbits` bits. -/
def decodeTableWord (nbits w : Nat) : Option Instr :=
  match decode (tableRequest nbits w) with
  | .ok i => some i
  | .error _ => none

end Sys2Proof
end

