-- ==== Sys2Proof/Machine/Commands.lean ====
section
/-! DEFINITION. The display commands (spec/40_display.md R160 to R177), each on its own: one application of the
command encoder (spec/30_encoding.md R95). The block sends command bytes nowhere but in the WRITECMD of INIT, ON and
OFF (R108, R110), so on its own a command gives its bytes and nothing is sent (log 4). -/

namespace Sys2Proof.Machine

/-- One display command: `enc` of it (R95, R96). It writes no block state and cannot raise an error: errors belong to
the WRITECMD that carries it (spec/40_display.md section 5). -/
def encodeCommand (i : Instr) (s : State) : Host.Outcome State Fault Refusal :=
  operation true (fun s1 => (⟨.ok, .bytes (commandBytes i), []⟩, s1)) s

/-- DISPLAYOFF (R160). -/
def execDisplayoff (s : State) : Host.Outcome State Fault Refusal := encodeCommand .displayoff s

/-- SETCLOCKDIV a (R161). -/
def execSetclockdiv (a : Byte) (s : State) : Host.Outcome State Fault Refusal := encodeCommand (.setclockdiv a) s

/-- SETMULTIPLEX a (R162). -/
def execSetmultiplex (a : Byte) (s : State) : Host.Outcome State Fault Refusal := encodeCommand (.setmultiplex a) s

/-- SETDISPLAYOFFSET a (R163). -/
def execSetdisplayoffset (a : Byte) (s : State) : Host.Outcome State Fault Refusal := encodeCommand (.setdisplayoffset a) s

/-- SETSTARTLINE n (R164). -/
def execSetstartline (n : BitVec 6) (s : State) : Host.Outcome State Fault Refusal := encodeCommand (.setstartline n) s

/-- CHARGEPUMP a (R165). -/
def execChargepump (a : Byte) (s : State) : Host.Outcome State Fault Refusal := encodeCommand (.chargepump a) s

/-- MEMORYMODE a (R166). -/
def execMemorymode (a : Byte) (s : State) : Host.Outcome State Fault Refusal := encodeCommand (.memorymode a) s

/-- SEGREMAP r (R167). -/
def execSegremap (r : BitVec 1) (s : State) : Host.Outcome State Fault Refusal := encodeCommand (.segremap r) s

/-- COMSCANDIR d (R168). -/
def execComscandir (d : BitVec 1) (s : State) : Host.Outcome State Fault Refusal := encodeCommand (.comscandir d) s

/-- SETCOMPINS a (R169). -/
def execSetcompins (a : Byte) (s : State) : Host.Outcome State Fault Refusal := encodeCommand (.setcompins a) s

/-- SETCONTRAST a (R170). -/
def execSetcontrast (a : Byte) (s : State) : Host.Outcome State Fault Refusal := encodeCommand (.setcontrast a) s

/-- SETPRECHARGE a (R171). -/
def execSetprecharge (a : Byte) (s : State) : Host.Outcome State Fault Refusal := encodeCommand (.setprecharge a) s

/-- SETVCOMH a (R172). -/
def execSetvcomh (a : Byte) (s : State) : Host.Outcome State Fault Refusal := encodeCommand (.setvcomh a) s

/-- RESUMERAM (R173). -/
def execResumeram (s : State) : Host.Outcome State Fault Refusal := encodeCommand .resumeram s

/-- NORMALDISPLAY (R174). -/
def execNormaldisplay (s : State) : Host.Outcome State Fault Refusal := encodeCommand .normaldisplay s

/-- DISPLAYON (R175). -/
def execDisplayon (s : State) : Host.Outcome State Fault Refusal := encodeCommand .displayon s

/-- COLUMNADDR a, b (R176). -/
def execColumnaddr (a b : Byte) (s : State) : Host.Outcome State Fault Refusal := encodeCommand (.columnaddr a b) s

/-- PAGEADDR a, b (R177). -/
def execPageaddr (a b : Byte) (s : State) : Host.Outcome State Fault Refusal := encodeCommand (.pageaddr a b) s

end Sys2Proof.Machine
end

