-- ==== Sys2Proof/Machine/Display.lean ====
section
/-! DEFINITION. The Display unit's host operations: INIT, WRITE, DISPLAY, ON, OFF (spec/40_display.md). -/

namespace Sys2Proof.Machine

/-- The 18 commands of INIT, in order (R153); `COM_SCAN_BYTE` is the parameter's (R168). -/
def initCommands (p : Params) : List Instr :=
  [.displayoff, .setclockdiv 0x80#8, .setmultiplex 63#8, .setdisplayoffset 0x00#8, .setstartline 0#6,
   .chargepump 0x14#8, .memorymode 0x00#8, .segremap 1#1, .comscandir p.comScanDir, .setcompins 0x12#8,
   .setcontrast 0x00#8, .setprecharge 0xF1#8, .setvcomh 0x40#8, .resumeram, .normaldisplay, .displayon,
   .columnaddr 0#8 127#8, .pageaddr 0#8 7#8]

/-- `INIT_BURST`: the encoding of the 18 commands (R153, R95). -/
def initBurst (p : Params) : List Byte := (initCommands p).flatMap commandBytes

/-- INIT inside an operation: HWRESET, then WRITECMD of the burst (R152). -/
def initDisplay (s : State) : Ran Unit :=
  match hwReset s with
  | (.error e, s1) => (.error e, s1)
  | (.ok _, s1) => writeCmd (initBurst s1.cfg) s1

/-- INIT (R152). -/
def execInit (s : State) : Host.Outcome State Fault Refusal := operation true (plain initDisplay) s

/-- WRITE's loop (R154), `n` bytes already stored: the count, the status, and the state. A flush that fails ends
it at once, the byte that completed the frame counted (R158). -/
def writePixels : List Byte → Nat → State → Nat × Ran Unit
  | [], n, s => (n, .ok (), s)
  | v :: vs, n, s =>
    let stored := (s.storePixel v).advance
    if s.atFrameEnd then
      match sendFrame stored with
      | (.error e, s1) => (n + 1, .error e, s1)
      | (.ok _, s1) => writePixels vs (n + 1) s1
    else writePixels vs (n + 1) stored

/-- WRITE's response: the count, with `ok` or the flush's error (R158). -/
def writeBody (data : List Byte) (s : State) : Response × State :=
  let r := writePixels data 0 s
  ({ responseOf r.2.1 with results := .count r.1 }, r.2.2)

/-- WRITE (R154). -/
def execWrite (data : List Byte) (s : State) : Host.Outcome State Fault Refusal :=
  operation true (writeBody data) s

/-- DISPLAY (R159). -/
def execDisplay (s : State) : Host.Outcome State Fault Refusal := operation true (plain sendFrame) s

/-- ON inside an operation: WRITECMD of one byte, the command DISPLAYON (R178, R175). -/
def powerOn (s : State) : Ran Unit := writeCmd [cmdDisplayOn] s

/-- OFF inside an operation: WRITECMD of one byte, the command DISPLAYOFF (R179, R160). -/
def powerOff (s : State) : Ran Unit := writeCmd [cmdDisplayOff] s

/-- ON (R178); it does not write `DISPLAY_ON` and never suppresses the command (R180). -/
def execOn (s : State) : Host.Outcome State Fault Refusal := operation true (plain powerOn) s

/-- OFF (R179, R180). -/
def execOff (s : State) : Host.Outcome State Fault Refusal := operation true (plain powerOff) s

end Sys2Proof.Machine
end

