-- ==== Sys2Proof/Machine/Light.lean ====
section
/-! DEFINITION. The light sequencer: SETGI and LUX (spec/42_light.md). -/

namespace Sys2Proof.Machine

/-- SETGI's sequence (R222): both values are stored, and only when the write succeeded. -/
def setGainIntegration (gain : Gain) (itime : Nat) (s : State) : Ran Unit :=
  match busWrite .write s.cfg.lightAddr
      [s.cfg.lightRegControl, controlByte s.cfg.gainCode gain itime] s with
  | (.error e, s1) => (.error e, s1)
  | (.ok _, s1) => (.ok (), s1.storeGain gain itime)

/-- SETGI (R222); integration steps outside 0..5 are refused (R107). -/
def execSetgi (gain : Gain) (itime : Nat) (s : State) : Host.Outcome State Fault Refusal :=
  operation (Instr.setgi gain itime).wellFormed (plain (setGainIntegration gain itime)) s

/-- LUX's bus cycle for a stored gain and integration time (R224, R229, R230): after a successful read the
disable write is sent and its answer ignored; after a failed enable or read it is not sent. -/
def luxCycle (gain : Gain) (itime : Nat) (s : State) : Ran Rat :=
  match busWrite .enable s.cfg.lightAddr [s.cfg.lightRegEnable, lightEnable] s with
  | (.error e, s1) => (.error e, s1)
  | (.ok _, s1) =>
    match busWriteThenRead .read s1.cfg.lightAddr [s1.cfg.lightRegC0DataL] 4
        (delay .integrate (luxWait itime) s1) with
    | (.error e, s2) => (.error e, s2)
    | (.ok b, s2) =>
      let s3 := (busWrite .disable s2.cfg.lightAddr [s2.cfg.lightRegEnable, lightDisable] s2).2
      (.ok (roundResult s3.cfg.numRound (luxFormula gain itime (channel0 b) (channel1 b))),
        s3.inPhase .compute)

/-- LUX inside an operation (R224): ConfigUnset before any successful SETGI (R231; log 13). -/
def readLux (s : State) : Ran Rat :=
  match s.gain, s.itime with
  | some gain, some itime => luxCycle gain itime s
  | _, _ => (.error .configUnset, s)

/-- LUX's response. -/
def luxBody (s : State) : Response × State :=
  match readLux s with
  | (.error e, s1) => (⟨e, .none, []⟩, s1)
  | (.ok q, s1) => (⟨.ok, .lux q, []⟩, s1)

/-- LUX (R224). -/
def execLux (s : State) : Host.Outcome State Fault Refusal := operation true luxBody s

end Sys2Proof.Machine
end

