-- ==== Sys2Proof/Machine/Dimming.lean ====
section
/-! DEFINITION. The Dimming unit: CONFIG, EVALUATE and DIMTICK (spec/43_dimming.md). -/

namespace Sys2Proof.Machine

/-- CONFIG's effect (R251). -/
def configBody (fromTod toTod : Int) (luxMin : Rat) (s : State) : Response × State :=
  (⟨.ok, .none, []⟩, s.loadConfig fromTod toTod luxMin)

/-- CONFIG (R251); boundaries outside 0..86399 are refused (R107). -/
def execConfig (fromTod toTod : Int) (luxMin : Rat) (s : State) : Host.Outcome State Fault Refusal :=
  operation (Instr.config fromTod toTod luxMin).wellFormed (configBody fromTod toTod luxMin) s

/-- EVALUATE's result: the pure window function (R252); ConfigUnset before the first CONFIG (log 13). -/
def evaluateBody (now : Int) (s : State) : Response × State :=
  match s.fromTod, s.toTod with
  | some fromTod, some toTod =>
    let w := windowAt fromTod toTod now
    (⟨.ok, .window w.2 w.1, []⟩, s)
  | _, _ => (configUnset, s)

/-- EVALUATE (R252). -/
def execEvaluate (now : Int) (s : State) : Host.Outcome State Fault Refusal :=
  operation true (evaluateBody now) s

/-- A power command inside DIMTICK: sent, its error logged, the flag updated by the policy (R255 to R257). -/
def powerCommand (wanted : Bool) (s : State) : List Status × State :=
  let r := if wanted then powerOn s else powerOff s
  (logged r.1, r.2.setDisplayOn (powerFlagAfter r.2.cfg.pwrFlagPolicy r.1 wanted r.2.displayOn))

/-- FORCE_ON (R255): ON is sent whatever `DISPLAY_ON` holds. -/
def forceOn (s : State) : List Status × State := powerCommand true s

/-- LUX_GATE (R256): the lux read, then at most one power command; a failed read is logged and skips it. -/
def luxGate (luxMin : Rat) (s : State) : List Status × State :=
  match readLux s with
  | (.error e, s1) => ([e], s1)
  | (.ok q, s1) =>
    if q < luxMin then
      if s1.displayOn then powerCommand false s1 else ([], s1)
    else
      if s1.displayOn then ([], s1) else powerCommand true s1

/-- DIMTICK's step 1 when the window is due (R252, R254): the new boundary, the log, the state. -/
def recomputeWindow (fromTod toTod now : Int) (s : State) : Int × List Status × State :=
  let w := windowAt fromTod toTod now
  let s1 := s.setWindow w.1 w.2
  if s.luxActive && !w.1 then (w.2, forceOn s1) else (w.2, [], s1)

/-- DIMTICK's step 1 (R253, R254): recompute iff due. -/
def windowStep (fromTod toTod now : Int) (s : State) : Int × List Status × State :=
  match s.nextEval with
  | .due => recomputeWindow fromTod toTod now s
  | .time t => if t ≤ now then recomputeWindow fromTod toTod now s else (t, [], s)

/-- DIMTICK once everything is configured (R254): the window, then the gate if active. -/
def tick (fromTod toTod : Int) (luxMin : Rat) (now : Int) (s : State) : Response × State :=
  let w := windowStep fromTod toTod now s
  let g := if w.2.2.luxActive then luxGate luxMin w.2.2 else ([], w.2.2)
  (⟨.ok, .tick w.1 g.2.luxActive g.2.displayOn, w.2.1 ++ g.1⟩, g.2)

/-- DIMTICK's entry condition (R254; log 13). -/
def dimtickBody (now : Int) (s : State) : Response × State :=
  match s.fromTod, s.toTod, s.luxMin, s.gain, s.itime with
  | some fromTod, some toTod, some luxMin, some _, some _ => tick fromTod toTod luxMin now s
  | _, _, _, _, _ => (configUnset, s)

/-- DIMTICK (R254). -/
def execDimtick (now : Int) (s : State) : Host.Outcome State Fault Refusal :=
  operation true (dimtickBody now) s

end Sys2Proof.Machine
end

