-- ==== Sys2Proof/Machine/Dispatch.lean ====
section
/-! DEFINITION. Which meaning each instruction has. -/

namespace Sys2Proof.Machine

def exec (i : Instr) (s : State) : Host.Outcome State Fault Refusal :=
  match i with
  | .init => Sys2Proof.Machine.execInit s
  | .write data => Sys2Proof.Machine.execWrite data s
  | .display => Sys2Proof.Machine.execDisplay s
  | .on => Sys2Proof.Machine.execOn s
  | .off => Sys2Proof.Machine.execOff s
  | .measure => Sys2Proof.Machine.execMeasure s
  | .setgi gain itime => Sys2Proof.Machine.execSetgi gain itime s
  | .lux => Sys2Proof.Machine.execLux s
  | .config fromTod toTod luxMin => Sys2Proof.Machine.execConfig fromTod toTod luxMin s
  | .evaluate now => Sys2Proof.Machine.execEvaluate now s
  | .dimtick now => Sys2Proof.Machine.execDimtick now s
  | .displayoff => Sys2Proof.Machine.execDisplayoff s
  | .setclockdiv a => Sys2Proof.Machine.execSetclockdiv a s
  | .setmultiplex a => Sys2Proof.Machine.execSetmultiplex a s
  | .setdisplayoffset a => Sys2Proof.Machine.execSetdisplayoffset a s
  | .setstartline n => Sys2Proof.Machine.execSetstartline n s
  | .chargepump a => Sys2Proof.Machine.execChargepump a s
  | .memorymode a => Sys2Proof.Machine.execMemorymode a s
  | .segremap r => Sys2Proof.Machine.execSegremap r s
  | .comscandir d => Sys2Proof.Machine.execComscandir d s
  | .setcompins a => Sys2Proof.Machine.execSetcompins a s
  | .setcontrast a => Sys2Proof.Machine.execSetcontrast a s
  | .setprecharge a => Sys2Proof.Machine.execSetprecharge a s
  | .setvcomh a => Sys2Proof.Machine.execSetvcomh a s
  | .resumeram => Sys2Proof.Machine.execResumeram s
  | .normaldisplay => Sys2Proof.Machine.execNormaldisplay s
  | .displayon => Sys2Proof.Machine.execDisplayon s
  | .columnaddr a b => Sys2Proof.Machine.execColumnaddr a b s
  | .pageaddr a b => Sys2Proof.Machine.execPageaddr a b s

end Sys2Proof.Machine
end

