-- ==== Sys2Proof/Machine/Step.lean ====
section
/-! DEFINITION. One step of the machine: the host's next request is taken, decoded and run to its end
(spec/30_encoding.md R90, spec/10_state.md R36); and where a table word is placed for the next step. -/

namespace Sys2Proof.Machine

/-- One step (log 2, log 6). -/
def step (s : State) : Host.Outcome State Fault Refusal :=
  match s.fetch with
  | none => waitForHost s
  | some (r, s1) =>
    match decode r with
    | .ok i => exec i s1
    | .error _ => rejectRequest s1

/-- `s` with a table word placed for the next step: a host request as the host's next one (log 6), a display
command's bytes on the encoder's bench (log 4, log 5). -/
def State.withFetchWord (s : State) (nbits w : Nat) : State :=
  match tableRequest nbits w with
  | .op code operands => { s with bench := none, requests := ⟨code, operands⟩ :: s.requests }
  | .command bytes => { s with bench := some bytes }

end Sys2Proof.Machine
end

