-- ==== Sys2Proof/Safety.lean ====
section
/-! DEFINITION. The terms claims are made in: the coming bus answers, the state after a run of bus events, the
chip-select discipline of the trace (spec/20_memory.md R76, spec/60_exceptions.md R313), the line levels the
trace shows (spec/10_state.md R40), and the invariant of every state the block can reach. -/

namespace Sys2Proof.Machine

/-! ### The oracle's coming answers (R74) -/

/-- The answer to the `k`-th bus call from here, counting from 0. -/
def State.answerAt (s : State) (k : Nat) : BusAnswer := s.oracle[k]?.getD (Config.busAnswer (s.asked + k))

/-- Whether an answer is `error`. -/
def answerFails : BusAnswer → Bool
  | .error => true
  | .ok _ => false

/-- Whether the `k`-th bus call from here fails. -/
def State.failsAt (s : State) (k : Nat) : Bool := answerFails (s.answerAt k)

/-! ### The state after a run of events -/

/-- The state after `events` of which `calls` had an answer; nothing but the trace, its answers and the oracle moves. -/
def State.after (s : State) (events : List Event) (calls : Nat) : State :=
  { s with
      trace := s.trace ++ events, answers := s.answers ++ (List.range calls).map s.answerAt,
      oracle := s.oracle.drop calls, asked := s.asked + calls }

/-- The state at the response of an operation that wrote no register and no memory. -/
def State.respond (s : State) (events : List Event) (calls : Nat) (r : Response) : State :=
  (s.after events calls).finish r

/-- The response of an operation that has no result fields. -/
def bare (st : Status) : Response := ⟨st, .none, []⟩

/-! ### Event lists of the spec -/

/-- WRITECMD on the path where the transfer is reached (R150). -/
def commandEvents (p : Params) (l : List Byte) : List Event :=
  [.gpio p.pinDc true p.dcCommandLevel, .cs true, .spi l, .cs false, .gpio p.pinDc true (!p.dcCommandLevel)]

/-- HWRESET on the all-ok path (R151). -/
def hwResetEvents (p : Params) : List Event :=
  [.gpio p.pinRst true true, .delay 1, .gpio p.pinRst true false, .delay 10, .gpio p.pinRst true true]

/-- DISPLAY (R159). -/
def frameEvents (l : List Byte) : List Event := [.cs true, .spi l, .cs false]

/-- LUX on the path where the disable write is sent (R224). -/
def luxEvents (p : Params) (itime : Nat) : List Event :=
  [.i2cWrite p.lightAddr [p.lightRegEnable, 0x03#8], .delay ((itime + 1) * 100 + 20),
   .i2cWriteRead p.lightAddr [p.lightRegC0DataL] 4, .i2cWrite p.lightAddr [p.lightRegEnable, 0x00#8]]

/-- The status of a WRITECMD whose three fallible calls fail or not: the first failure decides (R150, R311). -/
def commandStatus (dcCmdFails xferFails dcDataFails : Bool) : Status :=
  if dcCmdFails then .busTransactionError .dcCmd
  else if xferFails then .busTransactionError .xfer
  else if dcDataFails then .busTransactionError .dcData
  else .ok

/-- The events of a WRITECMD: only the first when the D/C-to-command call fails (R150). -/
def commandTrace (p : Params) (l : List Byte) (dcCmdFails : Bool) : List Event :=
  if dcCmdFails then [.gpio p.pinDc true p.dcCommandLevel] else commandEvents p l

/-- The answered calls of a WRITECMD. -/
def commandCalls (dcCmdFails : Bool) : Nat := if dcCmdFails then 1 else 3

/-- The event kinds that have an answer (R73). -/
def isAnswered : Event → Bool
  | .cs _ => false
  | .delay _ => false
  | _ => true

/-! ### The lines, as the trace shows them (R40) -/

/-- Where the chip-select line is within a transfer. -/
inductive ChipSelect where
  | released
  | asserted
  | sent
  deriving DecidableEq, Repr

/-- One event against the chip-select discipline of R76 (a): a transfer stands exactly between an assertion and
a release, with nothing in between. -/
def chipSelectStep : ChipSelect → Event → Option ChipSelect
  | .released, .cs true => some .asserted
  | .released, .cs false => none
  | .released, .spi _ => none
  | .released, _ => some .released
  | .asserted, .spi _ => some .sent
  | .asserted, _ => none
  | .sent, .cs false => some .released
  | .sent, _ => none

/-- The chip-select line after a trace that keeps the discipline, from the platform's premise that it is
released at reset (R343); none if the trace breaks it. -/
def chipSelectAfter (trace : List Event) : Option ChipSelect := trace.foldlM chipSelectStep .released

/-- The level a line has after an event with its answer: a GPIO call drives its pin only if it succeeded. R313 says so
of the reset line; for the D/C line it is the MODEL'S CHOICE, inferred (log 17). -/
def drive (pin : Nat) (e : Event) (a : BusAnswer) (level : Option Bool) : Option Bool :=
  match e, a with
  | .gpio q _ l, .ok _ => if q = pin then some l else level
  | _, _ => level

/-- The level of a pin after events with their answers, from the level before. -/
def levelAfter (pin : Nat) : List Event → List BusAnswer → Option Bool → Option Bool
  | [], _, level => level
  | e :: es, as, level =>
    match isAnswered e, as with
    | false, as => levelAfter pin es as level
    | true, a :: as => levelAfter pin es as (drive pin e a level)
    | true, [] => level

/-- The level of a pin: that of the last successful GPIO call on it, none if there was none (R40, R313, R342;
log 17). -/
def State.pinLevel (s : State) (pin : Nat) : Option Bool := levelAfter pin s.trace s.answers none

/-- Every answered event of the trace has its answer, and the answers are counted (R73). -/
abbrev State.Answered (s : State) : Prop :=
  s.trace.countP isAnswered = s.answers.length ∧ s.answers.length = s.asked

/-! ### The host's side -/

/-- The host's names for a `BusTransactionError`, by where it happened (R302, R303). -/
inductive HostError where
  | initializationError
  | transientReadError
  deriving DecidableEq, Repr

/-- How the host classifies an operation's status: INIT's bus error is fatal (R302), a measurement's is
transient (R303); every other status has no host name. That SETGI's bus error has none, at start-up too, is the
MODEL'S CHOICE: whether it is fatal "is the host's affair; the document does not say" (R302; log 21). -/
def hostError (i : Instr) (st : Status) : Option HostError :=
  match i, st with
  | .init, .busTransactionError _ => some .initializationError
  | .measure, .busTransactionError _ => some .transientReadError
  | .lux, .busTransactionError _ => some .transientReadError
  | _, _ => none

/-- A run ends cleanly iff its last completed operation is an OFF that returned `ok` (R356, D39). -/
def cleanEnd (last : Instr) (r : Response) : Bool := decide (last = .off) && decide (r.status = .ok)

/-! ### The invariant -/

/-- What holds of every state between two operations: memory in its canonical form; the sequencer at rest
(R36, R37); GAIN and ITIME both none or both held, the steps in 0..5 (R33); FROM, TO and LUX_MIN all none or
all held, the boundaries times of day (R30, R31); chip-select released and the trace disciplined (R40, R76); an
answer for each answered event (R73); and the Dimming unit moved from its reset values only once it was configured (R254). -/
abbrev State.Inv (s : State) : Prop :=
  Memory.wf s.cfg s.fb ∧
  (s.busy = false ∧ s.phase = .idle) ∧
  (s.gain.isSome = s.itime.isSome ∧ s.itime.all (fun t => decide (t ≤ 5)) = true) ∧
  (s.fromTod.isSome = s.toTod.isSome ∧ s.toTod.isSome = s.luxMin.isSome ∧
    s.fromTod.all isTimeOfDay = true ∧ s.toTod.all isTimeOfDay = true) ∧
  chipSelectAfter s.trace = some .released ∧
  s.Answered ∧
  ((s.nextEval ≠ .due ∨ s.luxActive = true ∨ s.displayOn = false) →
    s.fromTod.isSome = true ∧ s.gain.isSome = true)

end Sys2Proof.Machine
end

