-- ==== Sys2Proof/Certificates/Slice0/Obligations.lean ====
section
/-! DEFINITION. The statements about the model, from the spec's numbered rules; each docstring names its rule.
`s.respond events calls r` (Safety.lean) is `s` with `events` appended to the trace, `calls` answers taken, the
block idle and `r` its response: nothing else of `s` moves, so an equation with it states the frame as well. -/

namespace Sys2Proof.Machine

/-- The linear position of the cursor (R156). -/
def State.position (s : State) : Nat := s.curY.val * 128 + s.curX.val

/-- The Dimming unit is configured: FROM, TO and LUX_MIN by CONFIG, GAIN and ITIME by SETGI (R254). -/
def State.Configured (s : State) (fromTod toTod : Int) (luxMin : Rat) (gain : Gain) (itime : Nat) : Prop :=
  s.fromTod = some fromTod ∧ s.toTod = some toTod ∧ s.luxMin = some luxMin ∧
    s.gain = some gain ∧ s.itime = some itime

/-- The window is recomputed at `now` (R253). -/
def State.Due (s : State) (now : Int) : Prop := s.nextEval = .due ∨ ∃ t, s.nextEval = .time t ∧ t ≤ now

/-- After step 1 of a DIMTICK at `now` the unit is active until `ne`: held so, or just recomputed (R254). -/
def State.ActiveUntil (s : State) (fromTod toTod now ne : Int) : Prop :=
  (s.nextEval = .time ne ∧ now < ne ∧ s.luxActive = true) ∨
    (s.Due now ∧ windowAt fromTod toTod now = (true, ne))

/-- `DISPLAY_ON` after a power command with status `st` that was to make it `wanted` (R257). -/
def flagAfter (s : State) (st : Status) (wanted : Bool) : Bool :=
  if st = .ok ∨ s.cfg.pwrFlagPolicy = .always then wanted else s.displayOn

/-- What is logged for a status (R255, R256). -/
def logOf (st : Status) : List Status := if st = .ok then [] else [st]

/-- The eleven host operations (R92). -/
def isHostOperation (i : Instr) : Bool :=
  match encode i with
  | .op _ _ => true
  | .command _ => false

end Sys2Proof.Machine

open Sys2Proof Sys2Proof.Machine

/-! ### Encoding -/

/-- Decoding the encoding of a well-formed instruction gives it back, every operand at every value (R92, R96). -/
def Obligations.DecodeOfEncodeIsTheInstruction : Prop :=
  ∀ i : Instr, i.wellFormed = true → decode (encode i) = .ok i

/-- A request that decodes is the encoding of what it decodes to: no bit and no operand is dropped (R91, R96). -/
def Obligations.EncodeOfDecodeIsTheRequest : Prop :=
  ∀ (r : Request) (i : Instr), decode r = .ok i → encode i = r

/-- The decoder yields only instructions whose operands are inside their types (R107). -/
def Obligations.DecodedInstructionsAreWellFormed : Prop :=
  ∀ (r : Request) (i : Instr), decode r = .ok i → i.wellFormed = true

/-- Words written out from the tables of R92 and R96. That a gain travels as its index (2 for high) and which operand
fields a code has are the model's choice (log 1). -/
def Obligations.SpecWordsDecodeToTheirInstructions : Prop :=
  decode (.op 0x01#8 []) = .ok .init ∧
  decode (.op 0x02#8 [.bytes [200#8, 10#8]]) = .ok (.write [200#8, 10#8]) ∧
  decode (.op 0x10#8 []) = .ok .measure ∧
  decode (.op 0x20#8 [.num 2, .num 0]) = .ok (.setgi .high 0) ∧
  decode (.op 0x30#8 [.num 73800, .num 27000, .rat 5]) = .ok (.config 73800 27000 5) ∧
  decode (.op 0x32#8 [.num (-1)]) = .ok (.dimtick (-1)) ∧
  decode (.command [0xAE#8]) = .ok .displayoff ∧
  decode (.command [0x7F#8]) = .ok (.setstartline 63#6) ∧
  decode (.command [0xC8#8]) = .ok (.comscandir 1#1) ∧
  decode (.command [0x20#8, 0x00#8]) = .ok (.memorymode 0#8) ∧
  decode (.command [0x21#8, 0x00#8, 0x7F#8]) = .ok (.columnaddr 0#8 127#8)

/-- The bytes of the eighteen display commands (R96); a field of format C1F is added to its fixed bits. -/
def Obligations.CommandBytesAreTheTable : Prop :=
  commandBytes .displayoff = [0xAE#8] ∧
  (∀ a, commandBytes (.setclockdiv a) = [0xD5#8, a]) ∧
  (∀ a, commandBytes (.setmultiplex a) = [0xA8#8, a]) ∧
  (∀ a, commandBytes (.setdisplayoffset a) = [0xD3#8, a]) ∧
  (∀ n, (commandBytes (.setstartline n)).map BitVec.toNat = [0x40 + n.toNat]) ∧
  (∀ a, commandBytes (.chargepump a) = [0x8D#8, a]) ∧
  (∀ a, commandBytes (.memorymode a) = [0x20#8, a]) ∧
  (∀ r, (commandBytes (.segremap r)).map BitVec.toNat = [0xA0 + r.toNat]) ∧
  (∀ d, (commandBytes (.comscandir d)).map BitVec.toNat = [0xC0 + 8 * d.toNat]) ∧
  (∀ a, commandBytes (.setcompins a) = [0xDA#8, a]) ∧
  (∀ a, commandBytes (.setcontrast a) = [0x81#8, a]) ∧
  (∀ a, commandBytes (.setprecharge a) = [0xD9#8, a]) ∧
  (∀ a, commandBytes (.setvcomh a) = [0xDB#8, a]) ∧
  commandBytes .resumeram = [0xA4#8] ∧
  commandBytes .normaldisplay = [0xA6#8] ∧
  commandBytes .displayon = [0xAF#8] ∧
  (∀ a b, commandBytes (.columnaddr a b) = [0x21#8, a, b]) ∧
  (∀ a b, commandBytes (.pageaddr a b) = [0x22#8, a, b])

/-- Any burst of display commands reads back into exactly those commands, by byte 0 of each alone (R97). -/
def Obligations.CommandBurstsReadBack : Prop :=
  ∀ l : List Instr, (∀ i ∈ l, isHostOperation i = false) → parseBurst (l.flatMap commandBytes) = .ok l

/-- INIT_BURST is these 31 bytes, and they read back into the 18 commands of INIT (R153, R97). -/
def Obligations.InitBurstIsThe31Bytes : Prop :=
  ∀ p : Params,
    initBurst p =
      [0xAE#8, 0xD5#8, 0x80#8, 0xA8#8, 0x3F#8, 0xD3#8, 0x00#8, 0x40#8, 0x8D#8, 0x14#8, 0x20#8, 0x00#8, 0xA1#8,
       if p.comScanDir = 1#1 then 0xC8#8 else 0xC0#8,
       0xDA#8, 0x12#8, 0x81#8, 0x00#8, 0xD9#8, 0xF1#8, 0xDB#8, 0x40#8, 0xA4#8, 0xA6#8, 0xAF#8,
       0x21#8, 0x00#8, 0x7F#8, 0x22#8, 0x00#8, 0x07#8] ∧
    parseBurst (initBurst p) = .ok
      [.displayoff, .setclockdiv 0x80#8, .setmultiplex 63#8, .setdisplayoffset 0#8, .setstartline 0#6,
       .chargepump 0x14#8, .memorymode 0#8, .segremap 1#1, .comscandir p.comScanDir, .setcompins 0x12#8,
       .setcontrast 0#8, .setprecharge 0xF1#8, .setvcomh 0x40#8, .resumeram, .normaldisplay, .displayon,
       .columnaddr 0#8 127#8, .pageaddr 0#8 7#8]

/-! ### The step, and what is refused -/

/-- A host request that decodes is run as its instruction, the request taken from the host's list (R90, R36; the list
is the model's, log 6); so is a display command on the encoder's bench (log 4). -/
def Obligations.StepRunsTheDecodedRequest : Prop :=
  (∀ (s : State) (r : HostRequest) (rest : List HostRequest) (i : Instr),
    s.bench = none → s.requests = r :: rest → decode (.op r.code r.operands) = .ok i →
    step s = exec i { s with requests := rest }) ∧
  (∀ (s : State) (bytes : List Byte) (i : Instr),
    s.bench = some bytes → decode (.command bytes) = .ok i → step s = exec i { s with bench := none })

/-- With no request the block waits, unchanged; from reset it waits for the first one (R341; log 6). -/
def Obligations.IdleBlockWaitsForTheHost : Prop :=
  (∀ s : State, s.bench = none → s.requests = [] → step s = .next s) ∧ step State.reset = .next State.reset

/-- A request with a reserved code is refused: nothing but the response moves, and the request is gone (R106). That a
refusal is a next state, and how requests arrive, are the model's (log 3, log 6). -/
def Obligations.ReservedCodesAreRefused : Prop :=
  ∀ (s : State) (code : Byte) (operands : List Operand) (rest : List HostRequest),
    s.busy = false → s.bench = none → s.requests = ⟨code, operands⟩ :: rest →
    code ∉ [0x01#8, 0x02#8, 0x03#8, 0x04#8, 0x05#8, 0x10#8, 0x20#8, 0x21#8, 0x30#8, 0x31#8, 0x32#8] →
    step s = .next { s with requests := rest, response := some (bare .refused) }

/-- SETGI with steps outside 0..5 and CONFIG with a boundary outside 0..86399 are refused with no effect (R107;
log 3). -/
def Obligations.IllegalOperandsAreRefused : Prop :=
  (∀ (s : State) (gain : Gain) (itime : Nat), s.busy = false → 5 < itime →
    exec (.setgi gain itime) s = .next { s with response := some (bare .refused) }) ∧
  (∀ (s : State) (f t : Int) (q : Rat), s.busy = false → (f < 0 ∨ 86399 < f ∨ t < 0 ∨ 86399 < t) →
    exec (.config f t q) s = .next { s with response := some (bare .refused) })

/-- The same for host requests not yet decoded; a gain's index and the operand fields are the model's (log 1). The
second clause is the model's choice alone: bytes on the encoder's bench that are no command are outside the spec, and
are answered the same way (log 4). -/
def Obligations.IllegalRequestsAreRefused : Prop :=
  (∀ (s : State) (r : HostRequest) (rest : List HostRequest) (e : Reject),
    s.busy = false → s.bench = none → s.requests = r :: rest → decode (.op r.code r.operands) = .error e →
    step s = .next { s with requests := rest, response := some (bare .refused) }) ∧
  (∀ (s : State) (bytes : List Byte) (e : Reject),
    s.busy = false → s.bench = some bytes → decode (.command bytes) = .error e →
    step s = .next { s with bench := none, response := some (bare .refused) })

/-- While BUSY no request has a step, whatever it is: the machine refuses it by name (R37, R311). -/
def Obligations.BusyBlockRefusesEveryInstruction : Prop :=
  (∀ (i : Instr) (s : State), s.busy = true → exec i s = .refused .whileBusy) ∧
  (∀ s : State, s.busy = true → (s.bench.isSome = true ∨ s.requests ≠ []) → step s = .refused .whileBusy)

/-- Every operation on an idle block runs to its end, whatever the answers: the block is idle again and has
given a response; a status other than `ok` leaves no other mark (R312, R315). -/
def Obligations.EveryOperationReturnsToIdle : Prop :=
  ∀ (i : Instr) (s : State), i.wellFormed = true → s.busy = false →
    ∃ t r, exec i s = .next t ∧ t.response = some r ∧ t.phase = .idle ∧ t.busy = false ∧ r.status ≠ .refused

/-! ### Reset and the invariant -/

/-- The state after reset (R43). -/
def Obligations.ResetLeavesTheStateOfTheTable : Prop :=
  (∀ a : Fin 1024, State.reset.fbByte a = State.reset.cfg.fbReset[a]) ∧
  State.reset.curX = 0 ∧ State.reset.curY = 0 ∧
  State.reset.gain = none ∧ State.reset.itime = none ∧
  State.reset.fromTod = none ∧ State.reset.toTod = none ∧ State.reset.luxMin = none ∧
  State.reset.nextEval = .due ∧ State.reset.luxActive = false ∧ State.reset.displayOn = true ∧
  State.reset.phase = .idle ∧ State.reset.busy = false ∧ State.reset.trace = []

/-- The reset state meets the invariant. -/
def Obligations.ResetMeetsTheInvariant : Prop := State.reset.Inv

/-- Every step keeps the invariant (State.Inv in Safety.lean). -/
def Obligations.StepKeepsTheInvariant : Prop :=
  ∀ s t : State, s.Inv → step s = .next t → t.Inv

/-- No step leaves chip-select asserted or sends a transfer outside an assertion, on any path (R76, R313). -/
def Obligations.StepKeepsTheChipSelectDiscipline : Prop :=
  ∀ s t : State, chipSelectAfter s.trace = some .released → step s = .next t →
    chipSelectAfter t.trace = some .released

/-! ### Whole-machine rules -/

/-- The trace is only appended to, and each answered event takes exactly one answer, which is kept (R73, R75). -/
def Obligations.TraceGrowsByAnsweredEvents : Prop :=
  ∀ (i : Instr) (s t : State), exec i s = .next t →
    ∃ l, t.trace = s.trace ++ l ∧
      t.answers = s.answers ++ (List.range (l.countP isAnswered)).map s.answerAt ∧ t.oracle = s.oracle.drop (l.countP isAnswered) ∧
      t.asked = s.asked + l.countP isAnswered

/-- Each register is written only by the operations that R23 lists for it; the parameters never change (R42). -/
def Obligations.RegistersAreWrittenOnlyByTheirOperations : Prop :=
  ∀ (i : Instr) (s t : State), exec i s = .next t →
    t.cfg = s.cfg ∧ t.requests = s.requests ∧ t.bench = s.bench ∧
    ((∀ data, i ≠ .write data) → t.curX = s.curX ∧ t.curY = s.curY) ∧
    ((∀ gain itime, i ≠ .setgi gain itime) → t.gain = s.gain ∧ t.itime = s.itime) ∧
    ((∀ f d q, i ≠ .config f d q) → t.fromTod = s.fromTod ∧ t.toTod = s.toTod ∧ t.luxMin = s.luxMin) ∧
    ((∀ f d q, i ≠ .config f d q) → (∀ now, i ≠ .dimtick now) → t.nextEval = s.nextEval) ∧
    ((∀ now, i ≠ .dimtick now) → t.luxActive = s.luxActive ∧ t.displayOn = s.displayOn)

/-- No instruction but WRITE changes a byte of the framebuffer (R20, R181). -/
def Obligations.OnlyWriteChangesTheFramebuffer : Prop :=
  ∀ (i : Instr) (s t : State), (∀ data, i ≠ .write data) → exec i s = .next t →
    ∀ a : Fin 1024, t.fbByte a = s.fbByte a

/-- What the block sends over SPI, by instruction: INIT_BURST by INIT alone; the command AF by ON and DIMTICK, AE by
OFF and DIMTICK; frames of 1024 bytes by WRITE and DISPLAY; nothing else, and nothing by a display command on its own
(R60, R108, R110). -/
def Obligations.InstructionsSendOnlyTheirPayloads : Prop :=
  ∀ (i : Instr) (s t : State), exec i s = .next t →
    ∃ l, t.trace = s.trace ++ l ∧
      ∀ w, Event.spi w ∈ l →
        (i = .init ∧ w = initBurst s.cfg) ∨
        ((i = .on ∨ ∃ now, i = .dimtick now) ∧ w = [0xAF#8]) ∨
        ((i = .off ∨ ∃ now, i = .dimtick now) ∧ w = [0xAE#8]) ∨
        ((i = .display ∨ ∃ data, i = .write data) ∧ w.length = 1024)

/-- No step puts anything on the encoder's bench: after any step it is empty, so a run of the block from reset has
only the host's requests (R60, R92; the bench is the model's, log 4). -/
def Obligations.StepLeavesTheBenchEmpty : Prop :=
  State.reset.bench = none ∧ ∀ s t : State, step s = .next t → t.bench = none

/-- GAIN and ITIME hold the values last written successfully (R32, R34): in every next state they are as before, or
the instruction was a SETGI whose write succeeded and they are its operands; and a SETGI whose write succeeded does
leave its operands, one whose write failed or whose operands were illegal leaves both as before. -/
def Obligations.GainFollowsTheLastSuccessfulWrite : Prop :=
  (∀ (i : Instr) (s t : State), exec i s = .next t →
    (t.gain = s.gain ∧ t.itime = s.itime) ∨
      (∃ gain itime, i = .setgi gain itime ∧ s.failsAt 0 = false ∧ t.gain = some gain ∧ t.itime = some itime)) ∧
  (∀ (s t : State) (gain : Gain) (itime : Nat), exec (.setgi gain itime) s = .next t →
    (itime ≤ 5 → s.failsAt 0 = false → t.gain = some gain ∧ t.itime = some itime) ∧
    ((5 < itime ∨ s.failsAt 0 = true) → t.gain = s.gain ∧ t.itime = s.itime))

/-! ### The Display unit -/

/-- ON and OFF: WRITECMD of one byte, whatever was sent before; events and status by the first failing call; no
register and no byte of memory moves (R150, R178, R179, R180). -/
def Obligations.OnAndOffSendOneCommandByte : Prop :=
  encode .on = .op 0x04#8 [] ∧ encode .off = .op 0x05#8 [] ∧
  commandBytes .displayon = [0xAF#8] ∧ commandBytes .displayoff = [0xAE#8] ∧
  ∀ s : State, s.busy = false →
    exec .on s = .next (s.respond (commandTrace s.cfg [0xAF#8] (s.failsAt 0)) (commandCalls (s.failsAt 0))
      (bare (commandStatus (s.failsAt 0) (s.failsAt 1) (s.failsAt 2)))) ∧
    exec .off s = .next (s.respond (commandTrace s.cfg [0xAE#8] (s.failsAt 0)) (commandCalls (s.failsAt 0))
      (bare (commandStatus (s.failsAt 0) (s.failsAt 1) (s.failsAt 2))))

/-- INIT: the reset pulse, ended by its first failing call, then WRITECMD of the burst; the host calls its error
an InitializationError (R151, R152). -/
def Obligations.InitPulsesResetThenSendsTheBurst : Prop :=
  encode .init = .op 0x01#8 [] ∧
  (∀ p : Phase, hostError .init (.busTransactionError p) = some .initializationError) ∧
  ∀ s : State, s.busy = false →
    exec .init s = .next (
      if s.failsAt 0 then
        s.respond [.gpio s.cfg.pinRst true true] 1 (bare (.busTransactionError .rstHi1))
      else if s.failsAt 1 then
        s.respond [.gpio s.cfg.pinRst true true, .delay 1, .gpio s.cfg.pinRst true false] 2
          (bare (.busTransactionError .rstLo))
      else if s.failsAt 2 then
        s.respond [.gpio s.cfg.pinRst true true, .delay 1, .gpio s.cfg.pinRst true false, .delay 10,
          .gpio s.cfg.pinRst true true] 3 (bare (.busTransactionError .rstHi2))
      else
        s.respond ([.gpio s.cfg.pinRst true true, .delay 1, .gpio s.cfg.pinRst true false, .delay 10,
            .gpio s.cfg.pinRst true true] ++ commandTrace s.cfg (initBurst s.cfg) (s.failsAt 3))
          (3 + commandCalls (s.failsAt 3))
          (bare (commandStatus (s.failsAt 3) (s.failsAt 4) (s.failsAt 5))))

/-- The lines after a successful INIT, on a platform whose two pins differ: the reset line high, the D/C line at
"data", chip-select released (R40, R351). State.Answered is part of the invariant. -/
def Obligations.InitLeavesTheLinesAtRest : Prop :=
  ∀ (s t : State) (l : List Status), s.busy = false → s.cfg.wellFormed = true →
    chipSelectAfter s.trace = some .released → s.Answered →
    exec .init s = .next t → t.response = some ⟨.ok, .none, l⟩ →
    t.pinLevel t.cfg.pinRst = some true ∧ t.pinLevel t.cfg.pinDc = some (!t.cfg.dcCommandLevel) ∧
      chipSelectAfter t.trace = some .released

/-- The lines after an error in INIT's reset pulse, in ON and in OFF. THE MODEL'S CHOICE (log 17, DEDUCED): a failed
GPIO call drives nothing, so each line is where its last successful call left it. R313 says so of the reset line only;
that D/C is as before after a failed first call and at "command" after a failed restore is inferred (R314 and R351 have
it at "data" only where the restore succeeded), and so is the low reset line after a failed third call, where R40 reads
"high after any INIT that reached its third GPIO call". An INIT that fails in HWRESET leaves the reset line as before, high or low, by the call that
failed, and the D/C line as before. An ON leaves the D/C line as before if its first call failed, at "command" if its
restore failed, else at "data" (also when the transfer failed), and never moves the reset line; so does an OFF. -/
def Obligations.FailedCallsLeaveTheLines : Prop :=
  ∀ s : State, s.busy = false → s.cfg.wellFormed = true → s.Answered →
    (∀ t, exec .init s = .next t → (s.failsAt 0 || s.failsAt 1 || s.failsAt 2) = true →
      t.pinLevel s.cfg.pinRst =
        (if s.failsAt 0 then s.pinLevel s.cfg.pinRst else some (s.failsAt 1)) ∧
      t.pinLevel s.cfg.pinDc = s.pinLevel s.cfg.pinDc) ∧
    (∀ i t, (i = .on ∨ i = .off) → exec i s = .next t →
      t.pinLevel s.cfg.pinDc =
        (if s.failsAt 0 then s.pinLevel s.cfg.pinDc
         else if s.failsAt 2 then some s.cfg.dcCommandLevel
         else some (!s.cfg.dcCommandLevel)) ∧
      t.pinLevel s.cfg.pinRst = s.pinLevel s.cfg.pinRst)

/-- DISPLAY: the 1024 bytes in ascending order as one transfer; chip-select is released on both paths (R159, R68). -/
def Obligations.DisplaySendsTheWholeFramebuffer : Prop :=
  encode .display = .op 0x03#8 [] ∧
  ∀ s : State, s.busy = false →
    exec .display s = .next (s.respond [.cs true, .spi (List.ofFn fun a : Fin 1024 => s.fbByte a), .cs false] 1
      (bare (if s.failsAt 0 then .busTransactionError .xfer else .ok)))

/-- A WRITE that does not reach the end of a frame emits nothing, cannot fail, counts its bytes and moves the
cursor on by as many (R154, R156). What it stores is the next statement's. -/
def Obligations.WriteInsideAFrameEmitsNothing : Prop :=
  ∀ (s : State) (data : List Byte), s.busy = false → s.position + data.length < 8192 →
    ∃ t, exec (.write data) s = .next t ∧ t.trace = s.trace ∧ t.oracle = s.oracle ∧ t.asked = s.asked ∧
      t.position = s.position + data.length ∧ t.response = some ⟨.ok, .count data.length, []⟩

/-- A WRITE up to the end of a frame assigns each addressed pixel (lit iff the intensity is greater than 64)
and leaves every other pixel, whatever the flush answers (R155, R104, R62). -/
def Obligations.WriteAssignsTheAddressedPixels : Prop :=
  ∀ (s : State) (data : List Byte), s.busy = false → Memory.wf s.cfg s.fb → s.position + data.length ≤ 8192 →
    ∃ t, exec (.write data) s = .next t ∧
      ∀ (x : Fin 128) (y : Fin 64),
        t.pixel x y =
          if s.position ≤ y.val * 128 + x.val ∧ y.val * 128 + x.val < s.position + data.length then
            decide (64 < (data.getD (y.val * 128 + x.val - s.position) 0#8).toNat)
          else s.pixel x y

/-- WRITE's frame: every byte of the framebuffer that holds none of its pixels is unchanged, and so is every
register but the cursor (R155, R23). -/
def Obligations.WriteLeavesEverythingElse : Prop :=
  ∀ (s : State) (data : List Byte), s.busy = false →
    ∃ t, exec (.write data) s = .next t ∧
      (∀ a : Fin 1024,
        (∀ k < data.length,
          a.val ≠ (s.position + k) % 8192 / 128 / 8 * 128 + (s.position + k) % 8192 % 128) →
        t.fbByte a = s.fbByte a) ∧
      t.cfg = s.cfg ∧ t.gain = s.gain ∧ t.itime = s.itime ∧ t.fromTod = s.fromTod ∧ t.toTod = s.toTod ∧
      t.luxMin = s.luxMin ∧ t.nextEval = s.nextEval ∧ t.luxActive = s.luxActive ∧ t.displayOn = s.displayOn

/-- The full-frame property (R182): one WRITE of 8192 bytes from (0, 0) leaves bit r mod 8 of byte
(r div 8)·128 + c set iff intensity r·128 + c is greater than 64; it invokes exactly one DISPLAY, which
transmits exactly that framebuffer; the cursor is (0, 0) again. -/
def Obligations.FullFrameWritePacksAndFlushesOnce : Prop :=
  ∀ (s : State) (data : List Byte), s.busy = false → Memory.wf s.cfg s.fb → s.curX = 0 → s.curY = 0 →
    data.length = 8192 →
    ∃ t, exec (.write data) s = .next t ∧
      (∀ (r : Fin 64) (c : Fin 128),
        (t.fbByte ⟨r.val / 8 * 128 + c.val, by omega⟩).getLsbD (r.val % 8) =
          decide (64 < (data.getD (r.val * 128 + c.val) 0#8).toNat)) ∧
      t.trace = s.trace ++ [.cs true, .spi (List.ofFn fun a : Fin 1024 => t.fbByte a), .cs false] ∧
      t.asked = s.asked + 1 ∧ t.curX = 0 ∧ t.curY = 0 ∧
      t.response = some ⟨if s.failsAt 0 then .busTransactionError .xfer else .ok, .count 8192, []⟩

/-- A WRITE that meets no error flushes (pos + n) div 8192 times and ends at position (pos + n) mod 8192 (R157): its
events are exactly that many DISPLAYs, each of 1024 bytes. -/
def Obligations.WriteFlushesOncePerFrame : Prop :=
  ∀ (s : State) (data : List Byte), s.busy = false →
    (∀ k < (s.position + data.length) / 8192, s.failsAt k = false) →
    ∃ (t : State) (frames : List (List Byte)), exec (.write data) s = .next t ∧
      frames.length = (s.position + data.length) / 8192 ∧ (∀ f ∈ frames, f.length = 1024) ∧
      t.trace = s.trace ++ frames.flatMap (fun f => [.cs true, .spi f, .cs false]) ∧
      t.asked = s.asked + (s.position + data.length) / 8192 ∧
      t.position = (s.position + data.length) % 8192 ∧
      t.response = some ⟨.ok, .count data.length, []⟩

/-- A WRITE whose flush number `j` is the first to fail stops there: the count includes the byte that completed
the frame, no further byte is consumed, the cursor is (0, 0), and the frame that failed was the last thing
sent (R158). -/
def Obligations.FailedFlushEndsTheWrite : Prop :=
  ∀ (s : State) (data : List Byte) (j : Nat), s.busy = false →
    (∀ k < j, s.failsAt k = false) → s.failsAt j = true → (j + 1) * 8192 ≤ s.position + data.length →
    ∃ t l, exec (.write data) s = .next t ∧
      exec (.write (data.take ((j + 1) * 8192 - s.position))) s = .next t ∧
      t.curX = 0 ∧ t.curY = 0 ∧ t.asked = s.asked + j + 1 ∧
      t.trace = s.trace ++ l ++ [.cs true, .spi t.frame, .cs false] ∧
      t.response = some ⟨.busTransactionError .xfer, .count ((j + 1) * 8192 - s.position), []⟩

/-- `WRITE(a); WRITE(b)` leaves the same framebuffer, cursor and trace as `WRITE(a ++ b)` when no flush fails:
the two end states differ in nothing but the response (R181). -/
def Obligations.WritesCompose : Prop :=
  ∀ (s : State) (a b : List Byte), s.busy = false →
    (∀ k < (s.position + a.length + b.length) / 8192, s.failsAt k = false) →
    ∃ t u v, exec (.write a) s = .next t ∧ exec (.write b) t = .next u ∧ exec (.write (a ++ b)) s = .next v ∧
      v = { u with response := some ⟨.ok, .count (a.length + b.length), []⟩ }

/-- A display command on its own is one application of the encoder: its bytes, no event, no error, and no register
and no byte of memory moved (R95, R108, and R160 to R177 for each). That it can be run on its own is the model's choice
(log 4); its transfer is part of INIT, ON and OFF. -/
def Obligations.DisplayCommandsGiveTheirBytes : Prop :=
  ∀ s : State, s.busy = false →
    ∀ i : Instr, isHostOperation i = false →
      exec i s = .next (s.respond [] 0 ⟨.ok, .bytes (commandBytes i), []⟩) ∧
        1 ≤ (commandBytes i).length ∧ (commandBytes i).length ≤ 3

/-! ### The temperature/humidity sequencer -/

/-- MEASURE with both calls answered: three events and the two linear conversions of the big-endian raw values;
no state written (R201, R202). -/
def Obligations.MeasureConvertsTheReply : Prop :=
  ∀ (s : State) (b : Reply), s.busy = false → s.failsAt 0 = false → s.answerAt 1 = .ok b →
    exec .measure s = .next (s.respond
      [.i2cWrite s.cfg.thAddr [0xFD#8], .delay 10, .i2cRead s.cfg.thAddr 6] 2
      ⟨.ok, .measure
        (roundResult s.cfg.numRound (-45 + 175 * ((256 * b.b0.toNat + b.b1.toNat : Nat) : Rat) / 65535))
        (roundResult s.cfg.numRound (-6 + 125 * ((256 * b.b3.toNat + b.b4.toNat : Nat) : Rat) / 65535)), []⟩)

/-- MEASURE's errors: a failed write is followed by neither the delay nor the read; no result with an error; the
host calls either a TransientReadError (R204). -/
def Obligations.MeasureStopsAtTheFirstError : Prop :=
  (∀ p : Phase, hostError .measure (.busTransactionError p) = some .transientReadError) ∧
  ∀ s : State, s.busy = false →
    (s.failsAt 0 = true → exec .measure s = .next (s.respond [.i2cWrite s.cfg.thAddr [0xFD#8]] 1
      (bare (.busTransactionError .request)))) ∧
    (s.failsAt 0 = false → s.failsAt 1 = true → exec .measure s = .next (s.respond
      [.i2cWrite s.cfg.thAddr [0xFD#8], .delay 10, .i2cRead s.cfg.thAddr 6] 2
      (bare (.busTransactionError .read))))

/-- The checksum bytes are ignored: TH_DECODE, and so MEASURE, gives the same for any two of them (R203). -/
def Obligations.ChecksumBytesAreIgnored : Prop :=
  (∀ (b : Reply) (c d : Byte), thDecode { b with b2 := c, b5 := d } = thDecode b) ∧
  (∀ (s t u : State) (b : Reply) (c d : Byte), s.busy = false →
    s.oracle = [.ok b, .ok b] →
    exec .measure s = .next t →
    exec .measure { s with oracle := [.ok b, .ok { b with b2 := c, b5 := d }] } = .next u →
    u.response = t.response)

/-- The conversions, linear in the big-endian raw values; their anchors; their ranges, unclamped (R202). -/
def Obligations.ConversionsAreInTheirRanges : Prop :=
  (∀ b : Reply, thDecode b =
    (-45 + 175 * ((256 * b.b0.toNat + b.b1.toNat : Nat) : Rat) / 65535,
     -6 + 125 * ((256 * b.b3.toNat + b.b4.toNat : Nat) : Rat) / 65535)) ∧
  thDecode ⟨0#8, 0#8, 0#8, 0#8, 0#8, 0#8⟩ = (-45, -6) ∧
  thDecode ⟨0xFF#8, 0xFF#8, 0#8, 0xFF#8, 0xFF#8, 0#8⟩ = (130, 119) ∧
  ∀ b : Reply, (-45 ≤ (thDecode b).1 ∧ (thDecode b).1 ≤ 130) ∧ (-6 ≤ (thDecode b).2 ∧ (thDecode b).2 ≤ 119)

/-! ### The light sequencer -/

/-- SETGI: one write of the control byte; both values are stored when it succeeded, neither otherwise (R222, R102). -/
def Obligations.SetgiStoresBothOrNeither : Prop :=
  (∀ (gain : Gain) (itime : Nat), ∃ operands, encode (.setgi gain itime) = .op 0x20#8 operands) ∧
  (∀ c : GainCode, gainCodeOf c .low = c.low ∧ gainCodeOf c .medium = c.medium ∧
    gainCodeOf c .high = c.high ∧ gainCodeOf c .max = c.max) ∧
  ∀ (s : State) (gain : Gain) (itime : Nat), s.busy = false → itime ≤ 5 →
    exec (.setgi gain itime) s = .next (
      if s.failsAt 0 then
        s.respond [.i2cWrite s.cfg.lightAddr
          [s.cfg.lightRegControl, gainCodeOf s.cfg.gainCode gain ||| BitVec.ofNat 8 itime]] 1
          (bare (.busTransactionError .write))
      else
        { s.respond [.i2cWrite s.cfg.lightAddr
            [s.cfg.lightRegControl, gainCodeOf s.cfg.gainCode gain ||| BitVec.ofNat 8 itime]] 1 (bare .ok) with
          gain := some gain, itime := some itime })

/-- LUX with its enable and read answered, the disable write's answer ignored: four events and the lux in one
fraction, 0 for a zero channel 0 (R224, R227, R228), with the gain factors of R221. -/
def Obligations.LuxComputesFromTheChannels : Prop :=
  ∀ (s : State) (gain : Gain) (itime : Nat) (b : Reply) (ch0 ch1 factor : Nat),
    factor = (match gain with
      | .low => 1
      | .medium => 25
      | .high => 428
      | .max => 9876) →
    s.busy = false → s.gain = some gain → s.itime = some itime →
    s.failsAt 0 = false → s.answerAt 1 = .ok b →
    ch0 = b.b0.toNat + 256 * b.b1.toNat → ch1 = b.b2.toNat + 256 * b.b3.toNat →
    exec .lux s = .next (s.respond (luxEvents s.cfg itime) 3
      ⟨.ok, .lux (roundResult s.cfg.numRound
        (if ch0 = 0 then 0
         else 408 * ((ch0 : Rat) - (ch1 : Rat)) ^ 2 /
          ((ch0 : Rat) * (((itime + 1) * 100 : Nat) : Rat) * (factor : Rat)))), []⟩)

/-- LUX's errors, case by case: no disable after a failed enable or read; a failed disable is ignored, the lux
computed all the same; the host calls LUX's error a TransientReadError (R229). -/
def Obligations.LuxErrorsAndTheDisableStep : Prop :=
  (∀ p : Phase, hostError .lux (.busTransactionError p) = some .transientReadError) ∧
  ∀ (s : State) (gain : Gain) (itime : Nat), s.busy = false → s.gain = some gain → s.itime = some itime →
    (s.failsAt 0 = true → exec .lux s = .next (s.respond
      [.i2cWrite s.cfg.lightAddr [s.cfg.lightRegEnable, 0x03#8]] 1 (bare (.busTransactionError .enable)))) ∧
    (s.failsAt 0 = false → s.failsAt 1 = true → exec .lux s = .next (s.respond
      [.i2cWrite s.cfg.lightAddr [s.cfg.lightRegEnable, 0x03#8], .delay ((itime + 1) * 100 + 20),
       .i2cWriteRead s.cfg.lightAddr [s.cfg.lightRegC0DataL] 4] 2 (bare (.busTransactionError .read)))) ∧
    (∀ b : Reply, s.failsAt 0 = false → s.answerAt 1 = .ok b → exec .lux s = .next (s.respond
      [.i2cWrite s.cfg.lightAddr [s.cfg.lightRegEnable, 0x03#8], .delay ((itime + 1) * 100 + 20),
       .i2cWriteRead s.cfg.lightAddr [s.cfg.lightRegC0DataL] 4,
       .i2cWrite s.cfg.lightAddr [s.cfg.lightRegEnable, 0x00#8]] 3
      ⟨.ok, .lux (roundResult s.cfg.numRound (luxFormula gain itime (b.b0.toNat + 256 * b.b1.toNat)
        (b.b2.toNat + 256 * b.b3.toNat))), []⟩))

/-- LUX before any successful SETGI: ConfigUnset, no bus event, nothing changed (R231). -/
def Obligations.LuxWithoutGainIsConfigUnset : Prop :=
  ∀ s : State, s.busy = false → s.gain = none →
    exec .lux s = .next (s.respond [] 0 (bare .configUnset))

/-- The lux formula's consequences: never negative; 0 for ch0 = 0 (R228); for ch0 ≠ 0 zero iff the channels are
equal; and, where ch1 ≤ ch0 ≤ 65535, at most 267382.8 (R227). -/
def Obligations.LuxFormulaIsNonnegative : Prop :=
  ∀ (gain : Gain) (itime ch0 ch1 : Nat),
    0 ≤ luxFormula gain itime ch0 ch1 ∧
    (ch0 = 0 → luxFormula gain itime ch0 ch1 = 0) ∧
    (ch0 ≠ 0 → (luxFormula gain itime ch0 ch1 = 0 ↔ ch0 = ch1)) ∧
    (ch1 ≤ ch0 → ch0 ≤ 65535 → luxFormula gain itime ch0 ch1 ≤ 1336914 / 5)

/-! ### The Dimming unit -/

/-- CONFIG writes the window, the threshold and NEXT_EVAL, and nothing else (R251). -/
def Obligations.ConfigLoadsTheWindow : Prop :=
  (∀ (f t : Int) (q : Rat), ∃ operands, encode (.config f t q) = .op 0x30#8 operands) ∧
  ∀ (s : State) (f t : Int) (q : Rat), s.busy = false → 0 ≤ f → f < 86400 → 0 ≤ t → t < 86400 →
    exec (.config f t q) s = .next { s.respond [] 0 (bare .ok) with
      fromTod := some f, toTod := some t, luxMin := some q, nextEval := .due }

/-- EVALUATE is the pure window function of FROM, TO and `now`, and ConfigUnset before CONFIG (R252). -/
def Obligations.EvaluateIsTheWindowFunction : Prop :=
  (∀ now : Int, ∃ operands, encode (.evaluate now) = .op 0x31#8 operands) ∧
  ∀ (s : State) (now : Int), s.busy = false →
    (∀ f t : Int, s.fromTod = some f → s.toTod = some t →
      exec (.evaluate now) s = .next (s.respond [] 0
        (if now < now - now % 86400 + t then ⟨.ok, .window (now - now % 86400 + t) true, []⟩
         else if now < now - now % 86400 + f then ⟨.ok, .window (now - now % 86400 + f) false, []⟩
         else ⟨.ok, .window (now - now % 86400 + t + 86400) true, []⟩))) ∧
    (s.fromTod = none → exec (.evaluate now) s = .next (s.respond [] 0 (bare .configUnset)))

/-- What the window gives for each ordering of FROM and TO (R258); its boundary is later than `now`, by at most a
day (R259), and the window is the same at every time up to it, so that holding it until then loses nothing. -/
def Obligations.WindowHoldsUntilItsBoundary : Prop :=
  ∀ f t now : Int, isTimeOfDay f = true → isTimeOfDay t = true →
    (t < f → ((windowAt f t now).1 = true ↔ now % 86400 < t ∨ f ≤ now % 86400)) ∧
    (f ≤ t → (windowAt f t now).1 = true) ∧
    now < (windowAt f t now).2 ∧ (windowAt f t now).2 ≤ now + 86400 ∧
    ∀ later : Int, now ≤ later → later < (windowAt f t now).2 → windowAt f t later = windowAt f t now

/-- DIMTICK before CONFIG or before SETGI: ConfigUnset, no effect, no bus event (R254). -/
def Obligations.DimtickUnconfiguredIsConfigUnset : Prop :=
  ∀ (s : State) (now : Int), s.busy = false → (s.fromTod = none ∨ s.gain = none) →
    exec (.dimtick now) s = .next (s.respond [] 0 (bare .configUnset))

/-- DIMTICK ends with `ok` whenever its entry condition holds, and returns the three runtime registers (R254). -/
def Obligations.DimtickConfiguredIsAlwaysOk : Prop :=
  ∀ (s : State) (now f d : Int) (q : Rat) (gain : Gain) (itime : Nat),
    s.busy = false → s.Configured f d q gain itime →
    ∃ t ne log, exec (.dimtick now) s = .next t ∧ t.nextEval = .time ne ∧
      t.response = some ⟨.ok, .tick ne t.luxActive t.displayOn, log⟩

/-- DIMTICK that stays inactive: no bus event, no power command; a recompute stores the new boundary (R253, R259). -/
def Obligations.DimtickInactiveIsQuiet : Prop :=
  ∀ (s : State) (now f d ne : Int) (q : Rat) (gain : Gain) (itime : Nat),
    s.busy = false → s.Configured f d q gain itime → s.luxActive = false →
    (s.nextEval = .time ne → now < ne →
      exec (.dimtick now) s = .next (s.respond [] 0 ⟨.ok, .tick ne false s.displayOn, []⟩)) ∧
    (s.Due now → windowAt f d now = (false, ne) →
      exec (.dimtick now) s = .next ((s.setWindow false ne).respond [] 0 ⟨.ok, .tick ne false s.displayOn, []⟩))

/-- DIMTICK that leaves the active state sends ON whatever DISPLAY_ON holds, logs its error, updates the flag by
PWR_FLAG_POLICY, and reads no lux (R255, R257). -/
def Obligations.DimtickLeavingActiveForcesOn : Prop :=
  ∀ (s : State) (now f d ne : Int) (q : Rat) (gain : Gain) (itime : Nat) (st : Status),
    s.busy = false → s.Configured f d q gain itime → s.luxActive = true →
    s.Due now → windowAt f d now = (false, ne) →
    st = commandStatus (s.failsAt 0) (s.failsAt 1) (s.failsAt 2) →
    exec (.dimtick now) s = .next { (s.setWindow false ne).respond
        (commandTrace s.cfg [0xAF#8] (s.failsAt 0)) (commandCalls (s.failsAt 0))
        ⟨.ok, .tick ne false (flagAfter s st true), logOf st⟩ with
      displayOn := flagAfter s st true }

/-- DIMTICK while active, its lux read failing: the error is logged, the power decision skipped, DISPLAY_ON
unchanged (R256). -/
def Obligations.DimtickLuxFailureSkipsTheDecision : Prop :=
  ∀ (s : State) (now f d ne : Int) (q : Rat) (gain : Gain) (itime : Nat),
    s.busy = false → s.Configured f d q gain itime → s.ActiveUntil f d now ne →
    (s.failsAt 0 = true → exec (.dimtick now) s = .next ((s.setWindow true ne).respond
      ((luxEvents s.cfg itime).take 1) 1
      ⟨.ok, .tick ne true s.displayOn, [.busTransactionError .enable]⟩)) ∧
    (s.failsAt 0 = false → s.failsAt 1 = true → exec (.dimtick now) s = .next ((s.setWindow true ne).respond
      ((luxEvents s.cfg itime).take 3) 2
      ⟨.ok, .tick ne true s.displayOn, [.busTransactionError .read]⟩))

/-- DIMTICK while active: strictly below LUX_MIN the display is sent OFF if the flag is on; at or above it is sent
ON if the flag is off; otherwise no power command. The command's error is logged and the flag follows
PWR_FLAG_POLICY (R256, R257). -/
def Obligations.DimtickGatesByTheThreshold : Prop :=
  ∀ (s : State) (now f d ne : Int) (q lux : Rat) (gain : Gain) (itime : Nat) (b : Reply) (st : Status),
    s.busy = false → s.Configured f d q gain itime → s.ActiveUntil f d now ne →
    s.failsAt 0 = false → s.answerAt 1 = .ok b →
    lux = roundResult s.cfg.numRound (luxFormula gain itime (b.b0.toNat + 256 * b.b1.toNat)
      (b.b2.toNat + 256 * b.b3.toNat)) →
    st = commandStatus (s.failsAt 3) (s.failsAt 4) (s.failsAt 5) →
    exec (.dimtick now) s = .next (
      if lux < q ∧ s.displayOn = true then
        { (s.setWindow true ne).respond (luxEvents s.cfg itime ++ commandTrace s.cfg [0xAE#8] (s.failsAt 3))
            (3 + commandCalls (s.failsAt 3)) ⟨.ok, .tick ne true (flagAfter s st false), logOf st⟩ with
          displayOn := flagAfter s st false }
      else if q ≤ lux ∧ s.displayOn = false then
        { (s.setWindow true ne).respond (luxEvents s.cfg itime ++ commandTrace s.cfg [0xAF#8] (s.failsAt 3))
            (3 + commandCalls (s.failsAt 3)) ⟨.ok, .tick ne true (flagAfter s st true), logOf st⟩ with
          displayOn := flagAfter s st true }
      else (s.setWindow true ne).respond (luxEvents s.cfg itime) 3 ⟨.ok, .tick ne true s.displayOn, []⟩)

/-- The lines after an INIT whose reset pulse succeeded, its WRITECMD failing or not: the reset line is high (R40, R151),
and D/C is as before if the WRITECMD's first call failed, at "command" if its restore failed, else at "data", also when
the transfer failed. THE MODEL'S CHOICE (log 17, DEDUCED): that a failed GPIO call leaves the D/C line where it was. -/
def Obligations.InitPastItsPulseLeavesTheLines : Prop :=
  ∀ s t : State, s.busy = false → s.cfg.wellFormed = true → s.Answered →
    s.failsAt 0 = false → s.failsAt 1 = false → s.failsAt 2 = false → exec .init s = .next t →
    t.pinLevel s.cfg.pinRst = some true ∧
    t.pinLevel s.cfg.pinDc =
      (if s.failsAt 3 then s.pinLevel s.cfg.pinDc
       else if s.failsAt 5 then some s.cfg.dcCommandLevel
       else some (!s.cfg.dcCommandLevel))
end

