-- ==== Sys2Proof/Laws/Memory.lean ====
section
/-! SUPPORT. The laws of the framebuffer memory: a read after a write, and the canonical form kept. -/

namespace Sys2Proof.Machine

/-- The framebuffer at reset: nothing listed. -/
theorem empty_wf (p : Params) : Memory.wf p [] := ⟨List.Pairwise.nil, by simp⟩

theorem lookup_put_same (m : Memory) (a : Nat) (v : Byte) : Memory.lookup (Memory.put m a v) a = some v := by
  induction m with
  | nil => simp [Memory.put, Memory.lookup]
  | cons c m ih =>
    obtain ⟨b, w⟩ := c
    unfold Memory.put
    split
    · simp [Memory.lookup]
    · split
      · simp [Memory.lookup]
      · rename_i h1 h2
        simp [Memory.lookup, h2, ih]

theorem lookup_put_other (m : Memory) (a b : Nat) (v : Byte) (h : a ≠ b) :
    Memory.lookup (Memory.put m a v) b = Memory.lookup m b := by
  induction m with
  | nil => simp [Memory.put, Memory.lookup, h]
  | cons c m ih =>
    obtain ⟨d, w⟩ := c
    unfold Memory.put
    split
    · simp [Memory.lookup, h]
    · split
      · rename_i h1 h2
        subst h2
        simp [Memory.lookup, h]
      · simp [Memory.lookup, ih]

theorem lookup_drop_other (m : Memory) (a b : Nat) (h : a ≠ b) :
    Memory.lookup (Memory.drop m a) b = Memory.lookup m b := by
  induction m with
  | nil => rfl
  | cons c m ih =>
    obtain ⟨d, w⟩ := c
    unfold Memory.drop
    split
    · rename_i h1
      subst h1
      simp [Memory.lookup, h]
    · simp [Memory.lookup, ih]

theorem lookup_none_of_below (m : Memory) (a : Nat) (h : ∀ c ∈ m, a < c.1) : Memory.lookup m a = none := by
  induction m with
  | nil => rfl
  | cons c m ih =>
    obtain ⟨d, w⟩ := c
    have hd : a < d := h (d, w) (by simp)
    have : d ≠ a := by omega
    simp [Memory.lookup, this, ih fun c hc => h c (by simp [hc])]

theorem lookup_drop_same (m : Memory) (a : Nat) (hm : m.Pairwise fun c d => c.1 < d.1) :
    Memory.lookup (Memory.drop m a) a = none := by
  induction m with
  | nil => rfl
  | cons c m ih =>
    obtain ⟨d, w⟩ := c
    rw [List.pairwise_cons] at hm
    unfold Memory.drop
    split
    · rename_i h
      subst h
      exact lookup_none_of_below m d fun c hc => hm.1 c hc
    · rename_i h
      simp [Memory.lookup, h, ih hm.2]

theorem mem_put (m : Memory) (a : Nat) (v : Byte) (c : Host.Cell) (h : c ∈ Memory.put m a v) :
    c = (a, v) ∨ c ∈ m := by
  induction m with
  | nil => simpa [Memory.put] using h
  | cons d m ih =>
    obtain ⟨b, w⟩ := d
    unfold Memory.put at h
    split at h
    · simpa using h
    · split at h
      · simp only [List.mem_cons] at h ⊢; tauto
      · simp only [List.mem_cons] at h ⊢
        rcases h with h | h
        · exact Or.inr (Or.inl h)
        · rcases ih h with h | h
          · exact Or.inl h
          · exact Or.inr (Or.inr h)

theorem mem_drop (m : Memory) (a : Nat) (c : Host.Cell) (h : c ∈ Memory.drop m a) : c ∈ m := by
  induction m with
  | nil => simp [Memory.drop] at h
  | cons d m ih =>
    obtain ⟨b, w⟩ := d
    unfold Memory.drop at h
    split at h
    · simp [h]
    · simp only [List.mem_cons] at h ⊢
      exact h.imp id ih

theorem put_pairwise (m : Memory) (a : Nat) (v : Byte) (hm : m.Pairwise fun c d => c.1 < d.1) :
    (Memory.put m a v).Pairwise fun c d => c.1 < d.1 := by
  induction m with
  | nil => simp [Memory.put]
  | cons d m ih =>
    obtain ⟨b, w⟩ := d
    rw [List.pairwise_cons] at hm
    unfold Memory.put
    split
    · rename_i h
      refine List.pairwise_cons.2 ⟨?_, List.pairwise_cons.2 hm⟩
      intro c hc
      rcases List.mem_cons.1 hc with rfl | hc
      · exact h
      · exact Nat.lt_trans h (hm.1 c hc)
    · split
      · rename_i h
        subst h
        exact List.pairwise_cons.2 hm
      · rename_i h1 h2
        refine List.pairwise_cons.2 ⟨?_, ih hm.2⟩
        intro c hc
        rcases mem_put m a v c hc with rfl | hc
        · show b < a
          omega
        · exact hm.1 c hc

theorem drop_pairwise (m : Memory) (a : Nat) (hm : m.Pairwise fun c d => c.1 < d.1) :
    (Memory.drop m a).Pairwise fun c d => c.1 < d.1 := by
  induction m with
  | nil => exact hm
  | cons d m ih =>
    obtain ⟨b, w⟩ := d
    rw [List.pairwise_cons] at hm
    unfold Memory.drop
    split
    · exact hm.2
    · exact List.pairwise_cons.2 ⟨fun c hc => hm.1 c (mem_drop m a c hc), ih hm.2⟩

/-- A write keeps the canonical form. -/
theorem write_wf (p : Params) (m : Memory) (a : Fin 1024) (v : Byte) (hm : Memory.wf p m) :
    Memory.wf p (Memory.write p m a v) := by
  unfold Memory.write
  split
  · exact ⟨drop_pairwise m a hm.1, fun c hc => hm.2 c (mem_drop m a c hc)⟩
  · rename_i h
    refine ⟨put_pairwise m a v hm.1, fun c hc => ?_⟩
    rcases mem_put m a v c hc with rfl | hc
    · exact ⟨a.isLt, h⟩
    · exact hm.2 c hc

/-- A byte read where it was written. -/
theorem read_write_same (p : Params) (m : Memory) (a : Fin 1024) (v : Byte) (hm : Memory.wf p m) :
    Memory.read p (Memory.write p m a v) a = v := by
  unfold Memory.write Memory.read
  split
  · rename_i h
    simp [lookup_drop_same m a hm.1, h]
  · simp [lookup_put_same]

/-- A byte read elsewhere. -/
theorem read_write_other (p : Params) (m : Memory) (a b : Fin 1024) (v : Byte) (h : a ≠ b) :
    Memory.read p (Memory.write p m a v) b = Memory.read p m b := by
  have h' : a.val ≠ b.val := fun e => h (Fin.ext e)
  unfold Memory.write Memory.read
  split
  · simp [lookup_drop_other m _ _ h']
  · simp [lookup_put_other m _ _ v h']

/-- STORE_PIXEL keeps the canonical form (R155). -/
theorem storePixel_wf (s : State) (v : Byte) (h : Memory.wf s.cfg s.fb) :
    Memory.wf (s.storePixel v).cfg (s.storePixel v).fb :=
  write_wf _ _ _ _ h

/-- STORE_PIXEL at the byte of the cursor (R155). -/
theorem storePixel_fbByte_same (s : State) (v : Byte) (h : Memory.wf s.cfg s.fb) :
    (s.storePixel v).fbByte (pixByte s.curX s.curY) =
      assignBit (s.fbByte (pixByte s.curX s.curY)) (pixBit s.curY) (pixelLit v) :=
  read_write_same _ _ _ _ h

/-- STORE_PIXEL at every other byte (R155). -/
theorem storePixel_fbByte_other (s : State) (v : Byte) (a : Fin 1024) (h : a ≠ pixByte s.curX s.curY) :
    (s.storePixel v).fbByte a = s.fbByte a :=
  read_write_other _ _ _ _ _ (Ne.symm h)

/-- The framebuffer's transfer is 1024 bytes long (R68). -/
@[simp] theorem frame_length (s : State) : s.frame.length = 1024 := by
  rw [State.frame, Memory.all, List.length_ofFn]

end Sys2Proof.Machine
end

