-- ==== Sys2Proof/Laws/State.lean ====
section
/-! SUPPORT. One lemma for each field of State after each named update of it, so that no proof unfolds an update. -/

namespace Sys2Proof.Machine

variable (s : State)

/-! ### storePixel -/

@[simp] theorem State.storePixel_cfg (v : Byte) : (s.storePixel v).cfg = s.cfg := rfl
@[simp] theorem State.storePixel_fb (v : Byte) : (s.storePixel v).fb = Memory.write s.cfg s.fb (pixByte s.curX s.curY) (assignBit (s.fbByte (pixByte s.curX s.curY)) (pixBit s.curY) (pixelLit v)) := rfl
@[simp] theorem State.storePixel_curX (v : Byte) : (s.storePixel v).curX = s.curX := rfl
@[simp] theorem State.storePixel_curY (v : Byte) : (s.storePixel v).curY = s.curY := rfl
@[simp] theorem State.storePixel_gain (v : Byte) : (s.storePixel v).gain = s.gain := rfl
@[simp] theorem State.storePixel_itime (v : Byte) : (s.storePixel v).itime = s.itime := rfl
@[simp] theorem State.storePixel_fromTod (v : Byte) : (s.storePixel v).fromTod = s.fromTod := rfl
@[simp] theorem State.storePixel_toTod (v : Byte) : (s.storePixel v).toTod = s.toTod := rfl
@[simp] theorem State.storePixel_luxMin (v : Byte) : (s.storePixel v).luxMin = s.luxMin := rfl
@[simp] theorem State.storePixel_nextEval (v : Byte) : (s.storePixel v).nextEval = s.nextEval := rfl
@[simp] theorem State.storePixel_luxActive (v : Byte) : (s.storePixel v).luxActive = s.luxActive := rfl
@[simp] theorem State.storePixel_displayOn (v : Byte) : (s.storePixel v).displayOn = s.displayOn := rfl
@[simp] theorem State.storePixel_phase (v : Byte) : (s.storePixel v).phase = s.phase := rfl
@[simp] theorem State.storePixel_busy (v : Byte) : (s.storePixel v).busy = s.busy := rfl
@[simp] theorem State.storePixel_trace (v : Byte) : (s.storePixel v).trace = s.trace := rfl
@[simp] theorem State.storePixel_response (v : Byte) : (s.storePixel v).response = s.response := rfl
@[simp] theorem State.storePixel_requests (v : Byte) : (s.storePixel v).requests = s.requests := rfl
@[simp] theorem State.storePixel_oracle (v : Byte) : (s.storePixel v).oracle = s.oracle := rfl
@[simp] theorem State.storePixel_asked (v : Byte) : (s.storePixel v).asked = s.asked := rfl
@[simp] theorem State.storePixel_bench (v : Byte) : (s.storePixel v).bench = s.bench := rfl
@[simp] theorem State.storePixel_answers (v : Byte) : (s.storePixel v).answers = s.answers := rfl

/-! ### emit -/

@[simp] theorem State.emit_cfg (p : Phase) (e : Event) : (s.emit p e).cfg = s.cfg := rfl
@[simp] theorem State.emit_fb (p : Phase) (e : Event) : (s.emit p e).fb = s.fb := rfl
@[simp] theorem State.emit_curX (p : Phase) (e : Event) : (s.emit p e).curX = s.curX := rfl
@[simp] theorem State.emit_curY (p : Phase) (e : Event) : (s.emit p e).curY = s.curY := rfl
@[simp] theorem State.emit_gain (p : Phase) (e : Event) : (s.emit p e).gain = s.gain := rfl
@[simp] theorem State.emit_itime (p : Phase) (e : Event) : (s.emit p e).itime = s.itime := rfl
@[simp] theorem State.emit_fromTod (p : Phase) (e : Event) : (s.emit p e).fromTod = s.fromTod := rfl
@[simp] theorem State.emit_toTod (p : Phase) (e : Event) : (s.emit p e).toTod = s.toTod := rfl
@[simp] theorem State.emit_luxMin (p : Phase) (e : Event) : (s.emit p e).luxMin = s.luxMin := rfl
@[simp] theorem State.emit_nextEval (p : Phase) (e : Event) : (s.emit p e).nextEval = s.nextEval := rfl
@[simp] theorem State.emit_luxActive (p : Phase) (e : Event) : (s.emit p e).luxActive = s.luxActive := rfl
@[simp] theorem State.emit_displayOn (p : Phase) (e : Event) : (s.emit p e).displayOn = s.displayOn := rfl
@[simp] theorem State.emit_phase (p : Phase) (e : Event) : (s.emit p e).phase = p := rfl
@[simp] theorem State.emit_busy (p : Phase) (e : Event) : (s.emit p e).busy = s.busy := rfl
@[simp] theorem State.emit_trace (p : Phase) (e : Event) : (s.emit p e).trace = s.trace ++ [e] := rfl
@[simp] theorem State.emit_response (p : Phase) (e : Event) : (s.emit p e).response = s.response := rfl
@[simp] theorem State.emit_requests (p : Phase) (e : Event) : (s.emit p e).requests = s.requests := rfl
@[simp] theorem State.emit_oracle (p : Phase) (e : Event) : (s.emit p e).oracle = s.oracle := rfl
@[simp] theorem State.emit_asked (p : Phase) (e : Event) : (s.emit p e).asked = s.asked := rfl
@[simp] theorem State.emit_bench (p : Phase) (e : Event) : (s.emit p e).bench = s.bench := rfl
@[simp] theorem State.emit_answers (p : Phase) (e : Event) : (s.emit p e).answers = s.answers := rfl

/-! ### ask -/

@[simp] theorem State.ask_cfg (p : Phase) (e : Event) : (s.ask p e).cfg = s.cfg := rfl
@[simp] theorem State.ask_fb (p : Phase) (e : Event) : (s.ask p e).fb = s.fb := rfl
@[simp] theorem State.ask_curX (p : Phase) (e : Event) : (s.ask p e).curX = s.curX := rfl
@[simp] theorem State.ask_curY (p : Phase) (e : Event) : (s.ask p e).curY = s.curY := rfl
@[simp] theorem State.ask_gain (p : Phase) (e : Event) : (s.ask p e).gain = s.gain := rfl
@[simp] theorem State.ask_itime (p : Phase) (e : Event) : (s.ask p e).itime = s.itime := rfl
@[simp] theorem State.ask_fromTod (p : Phase) (e : Event) : (s.ask p e).fromTod = s.fromTod := rfl
@[simp] theorem State.ask_toTod (p : Phase) (e : Event) : (s.ask p e).toTod = s.toTod := rfl
@[simp] theorem State.ask_luxMin (p : Phase) (e : Event) : (s.ask p e).luxMin = s.luxMin := rfl
@[simp] theorem State.ask_nextEval (p : Phase) (e : Event) : (s.ask p e).nextEval = s.nextEval := rfl
@[simp] theorem State.ask_luxActive (p : Phase) (e : Event) : (s.ask p e).luxActive = s.luxActive := rfl
@[simp] theorem State.ask_displayOn (p : Phase) (e : Event) : (s.ask p e).displayOn = s.displayOn := rfl
@[simp] theorem State.ask_phase (p : Phase) (e : Event) : (s.ask p e).phase = p := rfl
@[simp] theorem State.ask_busy (p : Phase) (e : Event) : (s.ask p e).busy = s.busy := rfl
@[simp] theorem State.ask_trace (p : Phase) (e : Event) : (s.ask p e).trace = s.trace ++ [e] := rfl
@[simp] theorem State.ask_response (p : Phase) (e : Event) : (s.ask p e).response = s.response := rfl
@[simp] theorem State.ask_requests (p : Phase) (e : Event) : (s.ask p e).requests = s.requests := rfl
@[simp] theorem State.ask_oracle (p : Phase) (e : Event) : (s.ask p e).oracle = s.oracle.tail := rfl
@[simp] theorem State.ask_asked (p : Phase) (e : Event) : (s.ask p e).asked = s.asked + 1 := rfl
@[simp] theorem State.ask_bench (p : Phase) (e : Event) : (s.ask p e).bench = s.bench := rfl
@[simp] theorem State.ask_answers (p : Phase) (e : Event) : (s.ask p e).answers = s.answers ++ [s.answer] := rfl

/-! ### begin -/

@[simp] theorem State.begin_cfg : (s.begin).cfg = s.cfg := rfl
@[simp] theorem State.begin_fb : (s.begin).fb = s.fb := rfl
@[simp] theorem State.begin_curX : (s.begin).curX = s.curX := rfl
@[simp] theorem State.begin_curY : (s.begin).curY = s.curY := rfl
@[simp] theorem State.begin_gain : (s.begin).gain = s.gain := rfl
@[simp] theorem State.begin_itime : (s.begin).itime = s.itime := rfl
@[simp] theorem State.begin_fromTod : (s.begin).fromTod = s.fromTod := rfl
@[simp] theorem State.begin_toTod : (s.begin).toTod = s.toTod := rfl
@[simp] theorem State.begin_luxMin : (s.begin).luxMin = s.luxMin := rfl
@[simp] theorem State.begin_nextEval : (s.begin).nextEval = s.nextEval := rfl
@[simp] theorem State.begin_luxActive : (s.begin).luxActive = s.luxActive := rfl
@[simp] theorem State.begin_displayOn : (s.begin).displayOn = s.displayOn := rfl
@[simp] theorem State.begin_phase : (s.begin).phase = s.phase := rfl
@[simp] theorem State.begin_busy : (s.begin).busy = true := rfl
@[simp] theorem State.begin_trace : (s.begin).trace = s.trace := rfl
@[simp] theorem State.begin_response : (s.begin).response = s.response := rfl
@[simp] theorem State.begin_requests : (s.begin).requests = s.requests := rfl
@[simp] theorem State.begin_oracle : (s.begin).oracle = s.oracle := rfl
@[simp] theorem State.begin_asked : (s.begin).asked = s.asked := rfl
@[simp] theorem State.begin_bench : (s.begin).bench = s.bench := rfl
@[simp] theorem State.begin_answers : (s.begin).answers = s.answers := rfl

/-! ### finish -/

@[simp] theorem State.finish_cfg (r : Response) : (s.finish r).cfg = s.cfg := rfl
@[simp] theorem State.finish_fb (r : Response) : (s.finish r).fb = s.fb := rfl
@[simp] theorem State.finish_curX (r : Response) : (s.finish r).curX = s.curX := rfl
@[simp] theorem State.finish_curY (r : Response) : (s.finish r).curY = s.curY := rfl
@[simp] theorem State.finish_gain (r : Response) : (s.finish r).gain = s.gain := rfl
@[simp] theorem State.finish_itime (r : Response) : (s.finish r).itime = s.itime := rfl
@[simp] theorem State.finish_fromTod (r : Response) : (s.finish r).fromTod = s.fromTod := rfl
@[simp] theorem State.finish_toTod (r : Response) : (s.finish r).toTod = s.toTod := rfl
@[simp] theorem State.finish_luxMin (r : Response) : (s.finish r).luxMin = s.luxMin := rfl
@[simp] theorem State.finish_nextEval (r : Response) : (s.finish r).nextEval = s.nextEval := rfl
@[simp] theorem State.finish_luxActive (r : Response) : (s.finish r).luxActive = s.luxActive := rfl
@[simp] theorem State.finish_displayOn (r : Response) : (s.finish r).displayOn = s.displayOn := rfl
@[simp] theorem State.finish_phase (r : Response) : (s.finish r).phase = .idle := rfl
@[simp] theorem State.finish_busy (r : Response) : (s.finish r).busy = false := rfl
@[simp] theorem State.finish_trace (r : Response) : (s.finish r).trace = s.trace := rfl
@[simp] theorem State.finish_response (r : Response) : (s.finish r).response = some r := rfl
@[simp] theorem State.finish_requests (r : Response) : (s.finish r).requests = s.requests := rfl
@[simp] theorem State.finish_oracle (r : Response) : (s.finish r).oracle = s.oracle := rfl
@[simp] theorem State.finish_asked (r : Response) : (s.finish r).asked = s.asked := rfl
@[simp] theorem State.finish_bench (r : Response) : (s.finish r).bench = s.bench := rfl
@[simp] theorem State.finish_answers (r : Response) : (s.finish r).answers = s.answers := rfl

/-! ### refuse -/

@[simp] theorem State.refuse_cfg : (s.refuse).cfg = s.cfg := rfl
@[simp] theorem State.refuse_fb : (s.refuse).fb = s.fb := rfl
@[simp] theorem State.refuse_curX : (s.refuse).curX = s.curX := rfl
@[simp] theorem State.refuse_curY : (s.refuse).curY = s.curY := rfl
@[simp] theorem State.refuse_gain : (s.refuse).gain = s.gain := rfl
@[simp] theorem State.refuse_itime : (s.refuse).itime = s.itime := rfl
@[simp] theorem State.refuse_fromTod : (s.refuse).fromTod = s.fromTod := rfl
@[simp] theorem State.refuse_toTod : (s.refuse).toTod = s.toTod := rfl
@[simp] theorem State.refuse_luxMin : (s.refuse).luxMin = s.luxMin := rfl
@[simp] theorem State.refuse_nextEval : (s.refuse).nextEval = s.nextEval := rfl
@[simp] theorem State.refuse_luxActive : (s.refuse).luxActive = s.luxActive := rfl
@[simp] theorem State.refuse_displayOn : (s.refuse).displayOn = s.displayOn := rfl
@[simp] theorem State.refuse_phase : (s.refuse).phase = s.phase := rfl
@[simp] theorem State.refuse_busy : (s.refuse).busy = s.busy := rfl
@[simp] theorem State.refuse_trace : (s.refuse).trace = s.trace := rfl
@[simp] theorem State.refuse_response : (s.refuse).response = some ⟨.refused, .none, []⟩ := rfl
@[simp] theorem State.refuse_requests : (s.refuse).requests = s.requests := rfl
@[simp] theorem State.refuse_oracle : (s.refuse).oracle = s.oracle := rfl
@[simp] theorem State.refuse_asked : (s.refuse).asked = s.asked := rfl
@[simp] theorem State.refuse_bench : (s.refuse).bench = s.bench := rfl
@[simp] theorem State.refuse_answers : (s.refuse).answers = s.answers := rfl

/-! ### after -/

@[simp] theorem State.after_cfg (evs : List Event) (k : Nat) : (s.after evs k).cfg = s.cfg := rfl
@[simp] theorem State.after_fb (evs : List Event) (k : Nat) : (s.after evs k).fb = s.fb := rfl
@[simp] theorem State.after_curX (evs : List Event) (k : Nat) : (s.after evs k).curX = s.curX := rfl
@[simp] theorem State.after_curY (evs : List Event) (k : Nat) : (s.after evs k).curY = s.curY := rfl
@[simp] theorem State.after_gain (evs : List Event) (k : Nat) : (s.after evs k).gain = s.gain := rfl
@[simp] theorem State.after_itime (evs : List Event) (k : Nat) : (s.after evs k).itime = s.itime := rfl
@[simp] theorem State.after_fromTod (evs : List Event) (k : Nat) : (s.after evs k).fromTod = s.fromTod := rfl
@[simp] theorem State.after_toTod (evs : List Event) (k : Nat) : (s.after evs k).toTod = s.toTod := rfl
@[simp] theorem State.after_luxMin (evs : List Event) (k : Nat) : (s.after evs k).luxMin = s.luxMin := rfl
@[simp] theorem State.after_nextEval (evs : List Event) (k : Nat) : (s.after evs k).nextEval = s.nextEval := rfl
@[simp] theorem State.after_luxActive (evs : List Event) (k : Nat) : (s.after evs k).luxActive = s.luxActive := rfl
@[simp] theorem State.after_displayOn (evs : List Event) (k : Nat) : (s.after evs k).displayOn = s.displayOn := rfl
@[simp] theorem State.after_phase (evs : List Event) (k : Nat) : (s.after evs k).phase = s.phase := rfl
@[simp] theorem State.after_busy (evs : List Event) (k : Nat) : (s.after evs k).busy = s.busy := rfl
@[simp] theorem State.after_trace (evs : List Event) (k : Nat) : (s.after evs k).trace = s.trace ++ evs := rfl
@[simp] theorem State.after_response (evs : List Event) (k : Nat) : (s.after evs k).response = s.response := rfl
@[simp] theorem State.after_requests (evs : List Event) (k : Nat) : (s.after evs k).requests = s.requests := rfl
@[simp] theorem State.after_oracle (evs : List Event) (k : Nat) : (s.after evs k).oracle = s.oracle.drop k := rfl
@[simp] theorem State.after_asked (evs : List Event) (k : Nat) : (s.after evs k).asked = s.asked + k := rfl
@[simp] theorem State.after_bench (evs : List Event) (k : Nat) : (s.after evs k).bench = s.bench := rfl
@[simp] theorem State.after_answers (evs : List Event) (k : Nat) : (s.after evs k).answers = s.answers ++ (List.range k).map s.answerAt := rfl

/-! ### inPhase -/

@[simp] theorem State.inPhase_cfg (p : Phase) : (s.inPhase p).cfg = s.cfg := rfl
@[simp] theorem State.inPhase_fb (p : Phase) : (s.inPhase p).fb = s.fb := rfl
@[simp] theorem State.inPhase_curX (p : Phase) : (s.inPhase p).curX = s.curX := rfl
@[simp] theorem State.inPhase_curY (p : Phase) : (s.inPhase p).curY = s.curY := rfl
@[simp] theorem State.inPhase_gain (p : Phase) : (s.inPhase p).gain = s.gain := rfl
@[simp] theorem State.inPhase_itime (p : Phase) : (s.inPhase p).itime = s.itime := rfl
@[simp] theorem State.inPhase_fromTod (p : Phase) : (s.inPhase p).fromTod = s.fromTod := rfl
@[simp] theorem State.inPhase_toTod (p : Phase) : (s.inPhase p).toTod = s.toTod := rfl
@[simp] theorem State.inPhase_luxMin (p : Phase) : (s.inPhase p).luxMin = s.luxMin := rfl
@[simp] theorem State.inPhase_nextEval (p : Phase) : (s.inPhase p).nextEval = s.nextEval := rfl
@[simp] theorem State.inPhase_luxActive (p : Phase) : (s.inPhase p).luxActive = s.luxActive := rfl
@[simp] theorem State.inPhase_displayOn (p : Phase) : (s.inPhase p).displayOn = s.displayOn := rfl
@[simp] theorem State.inPhase_phase (p : Phase) : (s.inPhase p).phase = p := rfl
@[simp] theorem State.inPhase_busy (p : Phase) : (s.inPhase p).busy = s.busy := rfl
@[simp] theorem State.inPhase_trace (p : Phase) : (s.inPhase p).trace = s.trace := rfl
@[simp] theorem State.inPhase_response (p : Phase) : (s.inPhase p).response = s.response := rfl
@[simp] theorem State.inPhase_requests (p : Phase) : (s.inPhase p).requests = s.requests := rfl
@[simp] theorem State.inPhase_oracle (p : Phase) : (s.inPhase p).oracle = s.oracle := rfl
@[simp] theorem State.inPhase_asked (p : Phase) : (s.inPhase p).asked = s.asked := rfl
@[simp] theorem State.inPhase_bench (p : Phase) : (s.inPhase p).bench = s.bench := rfl
@[simp] theorem State.inPhase_answers (p : Phase) : (s.inPhase p).answers = s.answers := rfl

/-! ### storeGain -/

@[simp] theorem State.storeGain_cfg (g : Gain) (t : Nat) : (s.storeGain g t).cfg = s.cfg := rfl
@[simp] theorem State.storeGain_fb (g : Gain) (t : Nat) : (s.storeGain g t).fb = s.fb := rfl
@[simp] theorem State.storeGain_curX (g : Gain) (t : Nat) : (s.storeGain g t).curX = s.curX := rfl
@[simp] theorem State.storeGain_curY (g : Gain) (t : Nat) : (s.storeGain g t).curY = s.curY := rfl
@[simp] theorem State.storeGain_gain (g : Gain) (t : Nat) : (s.storeGain g t).gain = some g := rfl
@[simp] theorem State.storeGain_itime (g : Gain) (t : Nat) : (s.storeGain g t).itime = some t := rfl
@[simp] theorem State.storeGain_fromTod (g : Gain) (t : Nat) : (s.storeGain g t).fromTod = s.fromTod := rfl
@[simp] theorem State.storeGain_toTod (g : Gain) (t : Nat) : (s.storeGain g t).toTod = s.toTod := rfl
@[simp] theorem State.storeGain_luxMin (g : Gain) (t : Nat) : (s.storeGain g t).luxMin = s.luxMin := rfl
@[simp] theorem State.storeGain_nextEval (g : Gain) (t : Nat) : (s.storeGain g t).nextEval = s.nextEval := rfl
@[simp] theorem State.storeGain_luxActive (g : Gain) (t : Nat) : (s.storeGain g t).luxActive = s.luxActive := rfl
@[simp] theorem State.storeGain_displayOn (g : Gain) (t : Nat) : (s.storeGain g t).displayOn = s.displayOn := rfl
@[simp] theorem State.storeGain_phase (g : Gain) (t : Nat) : (s.storeGain g t).phase = s.phase := rfl
@[simp] theorem State.storeGain_busy (g : Gain) (t : Nat) : (s.storeGain g t).busy = s.busy := rfl
@[simp] theorem State.storeGain_trace (g : Gain) (t : Nat) : (s.storeGain g t).trace = s.trace := rfl
@[simp] theorem State.storeGain_response (g : Gain) (t : Nat) : (s.storeGain g t).response = s.response := rfl
@[simp] theorem State.storeGain_requests (g : Gain) (t : Nat) : (s.storeGain g t).requests = s.requests := rfl
@[simp] theorem State.storeGain_oracle (g : Gain) (t : Nat) : (s.storeGain g t).oracle = s.oracle := rfl
@[simp] theorem State.storeGain_asked (g : Gain) (t : Nat) : (s.storeGain g t).asked = s.asked := rfl
@[simp] theorem State.storeGain_bench (g : Gain) (t : Nat) : (s.storeGain g t).bench = s.bench := rfl
@[simp] theorem State.storeGain_answers (g : Gain) (t : Nat) : (s.storeGain g t).answers = s.answers := rfl

/-! ### loadConfig -/

@[simp] theorem State.loadConfig_cfg (f t : Int) (q : Rat) : (s.loadConfig f t q).cfg = s.cfg := rfl
@[simp] theorem State.loadConfig_fb (f t : Int) (q : Rat) : (s.loadConfig f t q).fb = s.fb := rfl
@[simp] theorem State.loadConfig_curX (f t : Int) (q : Rat) : (s.loadConfig f t q).curX = s.curX := rfl
@[simp] theorem State.loadConfig_curY (f t : Int) (q : Rat) : (s.loadConfig f t q).curY = s.curY := rfl
@[simp] theorem State.loadConfig_gain (f t : Int) (q : Rat) : (s.loadConfig f t q).gain = s.gain := rfl
@[simp] theorem State.loadConfig_itime (f t : Int) (q : Rat) : (s.loadConfig f t q).itime = s.itime := rfl
@[simp] theorem State.loadConfig_fromTod (f t : Int) (q : Rat) : (s.loadConfig f t q).fromTod = some f := rfl
@[simp] theorem State.loadConfig_toTod (f t : Int) (q : Rat) : (s.loadConfig f t q).toTod = some t := rfl
@[simp] theorem State.loadConfig_luxMin (f t : Int) (q : Rat) : (s.loadConfig f t q).luxMin = some q := rfl
@[simp] theorem State.loadConfig_nextEval (f t : Int) (q : Rat) : (s.loadConfig f t q).nextEval = .due := rfl
@[simp] theorem State.loadConfig_luxActive (f t : Int) (q : Rat) : (s.loadConfig f t q).luxActive = s.luxActive := rfl
@[simp] theorem State.loadConfig_displayOn (f t : Int) (q : Rat) : (s.loadConfig f t q).displayOn = s.displayOn := rfl
@[simp] theorem State.loadConfig_phase (f t : Int) (q : Rat) : (s.loadConfig f t q).phase = s.phase := rfl
@[simp] theorem State.loadConfig_busy (f t : Int) (q : Rat) : (s.loadConfig f t q).busy = s.busy := rfl
@[simp] theorem State.loadConfig_trace (f t : Int) (q : Rat) : (s.loadConfig f t q).trace = s.trace := rfl
@[simp] theorem State.loadConfig_response (f t : Int) (q : Rat) : (s.loadConfig f t q).response = s.response := rfl
@[simp] theorem State.loadConfig_requests (f t : Int) (q : Rat) : (s.loadConfig f t q).requests = s.requests := rfl
@[simp] theorem State.loadConfig_oracle (f t : Int) (q : Rat) : (s.loadConfig f t q).oracle = s.oracle := rfl
@[simp] theorem State.loadConfig_asked (f t : Int) (q : Rat) : (s.loadConfig f t q).asked = s.asked := rfl
@[simp] theorem State.loadConfig_bench (f t : Int) (q : Rat) : (s.loadConfig f t q).bench = s.bench := rfl
@[simp] theorem State.loadConfig_answers (f t : Int) (q : Rat) : (s.loadConfig f t q).answers = s.answers := rfl

/-! ### setWindow -/

@[simp] theorem State.setWindow_cfg (b : Bool) (ne : Int) : (s.setWindow b ne).cfg = s.cfg := rfl
@[simp] theorem State.setWindow_fb (b : Bool) (ne : Int) : (s.setWindow b ne).fb = s.fb := rfl
@[simp] theorem State.setWindow_curX (b : Bool) (ne : Int) : (s.setWindow b ne).curX = s.curX := rfl
@[simp] theorem State.setWindow_curY (b : Bool) (ne : Int) : (s.setWindow b ne).curY = s.curY := rfl
@[simp] theorem State.setWindow_gain (b : Bool) (ne : Int) : (s.setWindow b ne).gain = s.gain := rfl
@[simp] theorem State.setWindow_itime (b : Bool) (ne : Int) : (s.setWindow b ne).itime = s.itime := rfl
@[simp] theorem State.setWindow_fromTod (b : Bool) (ne : Int) : (s.setWindow b ne).fromTod = s.fromTod := rfl
@[simp] theorem State.setWindow_toTod (b : Bool) (ne : Int) : (s.setWindow b ne).toTod = s.toTod := rfl
@[simp] theorem State.setWindow_luxMin (b : Bool) (ne : Int) : (s.setWindow b ne).luxMin = s.luxMin := rfl
@[simp] theorem State.setWindow_nextEval (b : Bool) (ne : Int) : (s.setWindow b ne).nextEval = .time ne := rfl
@[simp] theorem State.setWindow_luxActive (b : Bool) (ne : Int) : (s.setWindow b ne).luxActive = b := rfl
@[simp] theorem State.setWindow_displayOn (b : Bool) (ne : Int) : (s.setWindow b ne).displayOn = s.displayOn := rfl
@[simp] theorem State.setWindow_phase (b : Bool) (ne : Int) : (s.setWindow b ne).phase = s.phase := rfl
@[simp] theorem State.setWindow_busy (b : Bool) (ne : Int) : (s.setWindow b ne).busy = s.busy := rfl
@[simp] theorem State.setWindow_trace (b : Bool) (ne : Int) : (s.setWindow b ne).trace = s.trace := rfl
@[simp] theorem State.setWindow_response (b : Bool) (ne : Int) : (s.setWindow b ne).response = s.response := rfl
@[simp] theorem State.setWindow_requests (b : Bool) (ne : Int) : (s.setWindow b ne).requests = s.requests := rfl
@[simp] theorem State.setWindow_oracle (b : Bool) (ne : Int) : (s.setWindow b ne).oracle = s.oracle := rfl
@[simp] theorem State.setWindow_asked (b : Bool) (ne : Int) : (s.setWindow b ne).asked = s.asked := rfl
@[simp] theorem State.setWindow_bench (b : Bool) (ne : Int) : (s.setWindow b ne).bench = s.bench := rfl
@[simp] theorem State.setWindow_answers (b : Bool) (ne : Int) : (s.setWindow b ne).answers = s.answers := rfl

/-! ### setDisplayOn -/

@[simp] theorem State.setDisplayOn_cfg (b : Bool) : (s.setDisplayOn b).cfg = s.cfg := rfl
@[simp] theorem State.setDisplayOn_fb (b : Bool) : (s.setDisplayOn b).fb = s.fb := rfl
@[simp] theorem State.setDisplayOn_curX (b : Bool) : (s.setDisplayOn b).curX = s.curX := rfl
@[simp] theorem State.setDisplayOn_curY (b : Bool) : (s.setDisplayOn b).curY = s.curY := rfl
@[simp] theorem State.setDisplayOn_gain (b : Bool) : (s.setDisplayOn b).gain = s.gain := rfl
@[simp] theorem State.setDisplayOn_itime (b : Bool) : (s.setDisplayOn b).itime = s.itime := rfl
@[simp] theorem State.setDisplayOn_fromTod (b : Bool) : (s.setDisplayOn b).fromTod = s.fromTod := rfl
@[simp] theorem State.setDisplayOn_toTod (b : Bool) : (s.setDisplayOn b).toTod = s.toTod := rfl
@[simp] theorem State.setDisplayOn_luxMin (b : Bool) : (s.setDisplayOn b).luxMin = s.luxMin := rfl
@[simp] theorem State.setDisplayOn_nextEval (b : Bool) : (s.setDisplayOn b).nextEval = s.nextEval := rfl
@[simp] theorem State.setDisplayOn_luxActive (b : Bool) : (s.setDisplayOn b).luxActive = s.luxActive := rfl
@[simp] theorem State.setDisplayOn_displayOn (b : Bool) : (s.setDisplayOn b).displayOn = b := rfl
@[simp] theorem State.setDisplayOn_phase (b : Bool) : (s.setDisplayOn b).phase = s.phase := rfl
@[simp] theorem State.setDisplayOn_busy (b : Bool) : (s.setDisplayOn b).busy = s.busy := rfl
@[simp] theorem State.setDisplayOn_trace (b : Bool) : (s.setDisplayOn b).trace = s.trace := rfl
@[simp] theorem State.setDisplayOn_response (b : Bool) : (s.setDisplayOn b).response = s.response := rfl
@[simp] theorem State.setDisplayOn_requests (b : Bool) : (s.setDisplayOn b).requests = s.requests := rfl
@[simp] theorem State.setDisplayOn_oracle (b : Bool) : (s.setDisplayOn b).oracle = s.oracle := rfl
@[simp] theorem State.setDisplayOn_asked (b : Bool) : (s.setDisplayOn b).asked = s.asked := rfl
@[simp] theorem State.setDisplayOn_bench (b : Bool) : (s.setDisplayOn b).bench = s.bench := rfl
@[simp] theorem State.setDisplayOn_answers (b : Bool) : (s.setDisplayOn b).answers = s.answers := rfl

/-! ### advance -/

@[simp] theorem State.advance_cfg : s.advance.cfg = s.cfg := by
  unfold State.advance; split <;> [rfl; (split <;> rfl)]
@[simp] theorem State.advance_fb : s.advance.fb = s.fb := by
  unfold State.advance; split <;> [rfl; (split <;> rfl)]
@[simp] theorem State.advance_gain : s.advance.gain = s.gain := by
  unfold State.advance; split <;> [rfl; (split <;> rfl)]
@[simp] theorem State.advance_itime : s.advance.itime = s.itime := by
  unfold State.advance; split <;> [rfl; (split <;> rfl)]
@[simp] theorem State.advance_fromTod : s.advance.fromTod = s.fromTod := by
  unfold State.advance; split <;> [rfl; (split <;> rfl)]
@[simp] theorem State.advance_toTod : s.advance.toTod = s.toTod := by
  unfold State.advance; split <;> [rfl; (split <;> rfl)]
@[simp] theorem State.advance_luxMin : s.advance.luxMin = s.luxMin := by
  unfold State.advance; split <;> [rfl; (split <;> rfl)]
@[simp] theorem State.advance_nextEval : s.advance.nextEval = s.nextEval := by
  unfold State.advance; split <;> [rfl; (split <;> rfl)]
@[simp] theorem State.advance_luxActive : s.advance.luxActive = s.luxActive := by
  unfold State.advance; split <;> [rfl; (split <;> rfl)]
@[simp] theorem State.advance_displayOn : s.advance.displayOn = s.displayOn := by
  unfold State.advance; split <;> [rfl; (split <;> rfl)]
@[simp] theorem State.advance_phase : s.advance.phase = s.phase := by
  unfold State.advance; split <;> [rfl; (split <;> rfl)]
@[simp] theorem State.advance_busy : s.advance.busy = s.busy := by
  unfold State.advance; split <;> [rfl; (split <;> rfl)]
@[simp] theorem State.advance_trace : s.advance.trace = s.trace := by
  unfold State.advance; split <;> [rfl; (split <;> rfl)]
@[simp] theorem State.advance_response : s.advance.response = s.response := by
  unfold State.advance; split <;> [rfl; (split <;> rfl)]
@[simp] theorem State.advance_requests : s.advance.requests = s.requests := by
  unfold State.advance; split <;> [rfl; (split <;> rfl)]
@[simp] theorem State.advance_oracle : s.advance.oracle = s.oracle := by
  unfold State.advance; split <;> [rfl; (split <;> rfl)]
@[simp] theorem State.advance_asked : s.advance.asked = s.asked := by
  unfold State.advance; split <;> [rfl; (split <;> rfl)]
@[simp] theorem State.advance_bench : s.advance.bench = s.bench := by
  unfold State.advance; split <;> [rfl; (split <;> rfl)]
@[simp] theorem State.advance_answers : s.advance.answers = s.answers := by
  unfold State.advance; split <;> [rfl; (split <;> rfl)]

/-- ADVANCE moves the linear position by one, modulo a frame (R156). -/
theorem State.advance_position :
    s.advance.curY.val * 128 + s.advance.curX.val = (s.curY.val * 128 + s.curX.val + 1) % 8192 := by
  have hx := s.curX.isLt
  have hy := s.curY.isLt
  unfold State.advance
  split
  · simp only; omega
  · split
    · simp only [Fin.val_zero]; omega
    · simp only [Fin.val_zero]; omega

/-- The frame ends exactly where the linear position is the last one (R156). -/
theorem State.atFrameEnd_iff : s.atFrameEnd = true ↔ s.curY.val * 128 + s.curX.val = 8191 := by
  have hx := s.curX.isLt
  have hy := s.curY.isLt
  simp only [State.atFrameEnd, Bool.and_eq_true, decide_eq_true_eq]
  omega

/-- Two runs of events one after the other are one run of both. -/
@[simp] theorem State.after_after (e1 e2 : List Event) (j k : Nat) :
    (s.after e1 j).after e2 k = s.after (e1 ++ e2) (j + k) := by
  have h : ∀ i, (s.after e1 j).answerAt i = s.answerAt (j + i) := fun i => by
    simp [State.answerAt, State.after, Nat.add_assoc]
  simp [State.after, List.append_assoc, Nat.add_assoc, List.drop_drop, List.range_add, Function.comp_def]
  exact fun i _ => h i

/-- A run of events with as many answers as it has answered events keeps trace and answers in step. -/
theorem answered_after (evs : List Event) (k : Nat) (hs : s.Answered) (hk : evs.countP isAnswered = k) :
    (s.after evs k).Answered := by
  obtain ⟨h1, h2⟩ := hs
  constructor <;> simp [State.after, List.countP_append, hk, h1, h2]

/-- The level of a pin after two lists of events, the first with an answer for each of its answered events. -/
theorem levelAfter_append (pin : Nat) (e1 e2 : List Event) (a1 a2 : List BusAnswer) (level : Option Bool)
    (h : e1.countP isAnswered = a1.length) :
    levelAfter pin (e1 ++ e2) (a1 ++ a2) level = levelAfter pin e2 a2 (levelAfter pin e1 a1 level) := by
  induction e1 generalizing a1 level with
  | nil =>
    cases a1 with
    | nil => rfl
    | cons a as => simp at h
  | cons e es ih =>
    cases he : isAnswered e with
    | false => simp [levelAfter, he, ih a1 level (by simpa [he] using h)]
    | true =>
      cases a1 with
      | nil => simp [he] at h
      | cons a as => simp [levelAfter, he, ih as _ (by simpa [he] using h)]

/-- The level of a pin after a run of events, from its level before. -/
theorem pinLevel_after (evs : List Event) (k pin : Nat) (hs : s.Answered) :
    (s.after evs k).pinLevel pin = levelAfter pin evs ((List.range k).map s.answerAt) (s.pinLevel pin) :=
  levelAfter_append pin s.trace evs s.answers _ none hs.1

end Sys2Proof.Machine
end

