-- ==== Sys2Proof/Laws/Ops.lean ====
section
/-! SUPPORT. One lemma for each shared operation over the bus, saying everything it does in terms of the coming
answers and the events appended; the meanings' lemmas cite these instead of unfolding the operations. -/

namespace Sys2Proof.Machine

/-- The answer an operation takes next. -/
theorem answer_eq (s : State) : s.answer = s.answerAt 0 := by
  unfold State.answer State.answerAt
  cases s.oracle <;> rfl

theorem getElem?_drop_getD (l : List BusAnswer) (k j : Nat) (d : BusAnswer) :
    ((l.drop k)[j]?).getD d = (l[k + j]?).getD d := by
  rw [List.getElem?_drop]

/-- The coming answers after a run of events are those that come later from its start. -/
@[simp] theorem answerAt_after (s : State) (evs : List Event) (k j : Nat) :
    (s.after evs k).answerAt j = s.answerAt (k + j) := by
  simp [State.answerAt, State.after, Nat.add_assoc]

@[simp] theorem failsAt_after (s : State) (evs : List Event) (k j : Nat) :
    (s.after evs k).failsAt j = s.failsAt (k + j) := by
  simp [State.failsAt]

/-- A phase change touches no answer. -/
@[simp] theorem answerAt_phase (s : State) (p : Phase) (j : Nat) :
    (s.inPhase p).answerAt j = s.answerAt j := rfl

@[simp] theorem failsAt_phase (s : State) (p : Phase) (j : Nat) :
    (s.inPhase p).failsAt j = s.failsAt j := rfl

@[simp] theorem answerAt_begin (s : State) (j : Nat) : s.begin.answerAt j = s.answerAt j := rfl

@[simp] theorem failsAt_begin (s : State) (j : Nat) : s.begin.failsAt j = s.failsAt j := rfl

@[simp] theorem answerAt_storeGain (s : State) (g : Gain) (t : Nat) (j : Nat) : (s.storeGain g t).answerAt j = s.answerAt j := rfl

@[simp] theorem failsAt_storeGain (s : State) (g : Gain) (t : Nat) (j : Nat) : (s.storeGain g t).failsAt j = s.failsAt j := rfl

@[simp] theorem answerAt_loadConfig (s : State) (f t : Int) (q : Rat) (j : Nat) : (s.loadConfig f t q).answerAt j = s.answerAt j := rfl

@[simp] theorem failsAt_loadConfig (s : State) (f t : Int) (q : Rat) (j : Nat) : (s.loadConfig f t q).failsAt j = s.failsAt j := rfl

@[simp] theorem answerAt_setWindow (s : State) (b : Bool) (ne : Int) (j : Nat) : (s.setWindow b ne).answerAt j = s.answerAt j := rfl

@[simp] theorem failsAt_setWindow (s : State) (b : Bool) (ne : Int) (j : Nat) : (s.setWindow b ne).failsAt j = s.failsAt j := rfl

@[simp] theorem answerAt_setDisplayOn (s : State) (b : Bool) (j : Nat) : (s.setDisplayOn b).answerAt j = s.answerAt j := rfl

@[simp] theorem failsAt_setDisplayOn (s : State) (b : Bool) (j : Nat) : (s.setDisplayOn b).failsAt j = s.failsAt j := rfl

@[simp] theorem answerAt_storePixel (s : State) (v : Byte) (j : Nat) : (s.storePixel v).answerAt j = s.answerAt j := rfl

@[simp] theorem failsAt_storePixel (s : State) (v : Byte) (j : Nat) : (s.storePixel v).failsAt j = s.failsAt j := rfl

@[simp] theorem answerAt_advance (s : State) (j : Nat) : s.advance.answerAt j = s.answerAt j := by
  simp [State.answerAt]

@[simp] theorem failsAt_advance (s : State) (j : Nat) : s.advance.failsAt j = s.failsAt j := by
  simp [State.failsAt]

/-- An event without an answer, as a run of one event. -/
theorem emit_eq (s : State) (p : Phase) (e : Event) :
    s.emit p e = (s.after [e] 0).inPhase p := by
  simp [State.emit, State.after, State.inPhase]

/-- An answered event, as a run of one event. -/
theorem ask_eq (s : State) (p : Phase) (e : Event) :
    s.ask p e = (s.after [e] 1).inPhase p := by
  simp [State.ask, State.after, State.inPhase, answer_eq]

/-- A run of events forgets the phase it starts in once a phase is set. -/
@[simp] theorem after_phase (s : State) (p : Phase) (evs : List Event) (k : Nat) :
    (s.inPhase p).after evs k = (s.after evs k).inPhase p := rfl

@[simp] theorem inPhase_inPhase (s : State) (p q : Phase) : (s.inPhase p).inPhase q = s.inPhase q := rfl

@[simp] theorem inPhase_frame (s : State) (p : Phase) : (s.inPhase p).frame = s.frame := rfl

@[simp] theorem after_frame (s : State) (evs : List Event) (k : Nat) : (s.after evs k).frame = s.frame := rfl

/-- The outcome of a call, by whether it fails. -/
theorem answerUnit_eq (s : State) (p : Phase) (k : Nat) :
    answerUnit (s.answerAt k) p =
      if s.failsAt k then .error (.busTransactionError p) else .ok () := by
  unfold State.failsAt
  cases s.answerAt k <;> rfl

/-- A call that does not fail has a reply. -/
theorem answerAt_of_not_fails (s : State) (k : Nat) (h : s.failsAt k = false) :
    ∃ r, s.answerAt k = .ok r := by
  unfold State.failsAt at h
  cases hk : s.answerAt k with
  | error => rw [hk] at h; cases h
  | ok r => exact ⟨r, rfl⟩

theorem answerAt_of_fails (s : State) (k : Nat) (h : s.failsAt k = true) : s.answerAt k = .error := by
  unfold State.failsAt at h
  cases hk : s.answerAt k with
  | error => rfl
  | ok r => rw [hk] at h; cases h

/-! ### The bus primitives (R14, R15) -/

theorem busWrite_eq (p : Phase) (addr : Nat) (l : List Byte) (s : State) :
    busWrite p addr l s = (if s.failsAt 0 then .error (.busTransactionError p) else .ok (),
      (s.after [.i2cWrite addr l] 1).inPhase p) := by
  simp only [busWrite, ask_eq, answer_eq, answerUnit_eq]

theorem busRead_eq (p : Phase) (addr n : Nat) (s : State) :
    busRead p addr n s = (answerReply (s.answerAt 0) p,
      (s.after [.i2cRead addr n] 1).inPhase p) := by
  simp only [busRead, ask_eq, answer_eq]

theorem busWriteThenRead_eq (p : Phase) (addr : Nat) (l : List Byte) (n : Nat) (s : State) :
    busWriteThenRead p addr l n s = (answerReply (s.answerAt 0) p,
      (s.after [.i2cWriteRead addr l n] 1).inPhase p) := by
  simp only [busWriteThenRead, ask_eq, answer_eq]

theorem spiTransfer_eq (p : Phase) (l : List Byte) (s : State) :
    spiTransfer p l s = (if s.failsAt 0 then .error (.busTransactionError p) else .ok (),
      (s.after [.spi l] 1).inPhase p) := by
  simp only [spiTransfer, ask_eq, answer_eq, answerUnit_eq]

theorem setGpio_eq (p : Phase) (pin : Nat) (level : Bool) (s : State) :
    setGpio p pin level s = (if s.failsAt 0 then .error (.busTransactionError p) else .ok (),
      (s.after [.gpio pin true level] 1).inPhase p) := by
  simp only [setGpio, ask_eq, answer_eq, answerUnit_eq]

theorem setCs_eq (p : Phase) (b : Bool) (s : State) :
    setCs p b s = (s.after [.cs b] 0).inPhase p := emit_eq s p _

theorem delay_eq (p : Phase) (ms : Nat) (s : State) :
    delay p ms s = (s.after [.delay ms] 0).inPhase p := emit_eq s p _

/-! ### The shared transfers -/

/-- A status as the outcome of an operation without results. -/
def ranOf (st : Status) : Except Status Unit :=
  match st with
  | .ok => .ok ()
  | st => .error st

@[simp] theorem responseOf_ranOf (st : Status) : responseOf (ranOf st) = bare st := by
  cases st <;> rfl

/-- WRITECMD (R150): its status, its events, and no other change than the phase. -/
theorem writeCmd_eq (l : List Byte) (s : State) :
    writeCmd l s = (ranOf (commandStatus (s.failsAt 0) (s.failsAt 1) (s.failsAt 2)),
      (s.after (commandTrace s.cfg l (s.failsAt 0)) (commandCalls (s.failsAt 0))).inPhase
        (if s.failsAt 0 then .dcCmd else .dcData)) := by
  unfold writeCmd
  rw [setGpio_eq]
  cases h0 : s.failsAt 0 with
  | true => simp [commandStatus, commandTrace, commandCalls, ranOf]
  | false =>
    simp only [setCs_eq, spiTransfer_eq, setGpio_eq]
    cases h1 : s.failsAt 1 <;> cases h2 : s.failsAt 2 <;>
      simp [commandStatus, commandTrace, commandCalls, ranOf, commandEvents, h1, h2]

/-- The status of HWRESET: the first failure decides (R151). -/
def hwResetStatus (f0 f1 f2 : Bool) : Status :=
  if f0 then .busTransactionError .rstHi1
  else if f1 then .busTransactionError .rstLo
  else if f2 then .busTransactionError .rstHi2
  else .ok

/-- How many of HWRESET's five events are emitted, and how many of them are answered calls (R151). -/
def hwResetReach (f0 f1 : Bool) : Nat × Nat := if f0 then (1, 1) else if f1 then (3, 2) else (5, 3)

/-- HWRESET (R151): its status, its events, and no other change than the phase. -/
theorem hwReset_eq (s : State) :
    hwReset s = (ranOf (hwResetStatus (s.failsAt 0) (s.failsAt 1) (s.failsAt 2)),
      (s.after ((hwResetEvents s.cfg).take (hwResetReach (s.failsAt 0) (s.failsAt 1)).1)
          (hwResetReach (s.failsAt 0) (s.failsAt 1)).2).inPhase
        (if s.failsAt 0 then .rstHi1 else if s.failsAt 1 then .rstLo else .rstHi2)) := by
  unfold hwReset
  rw [setGpio_eq]
  cases h0 : s.failsAt 0 with
  | true => simp [hwResetStatus, hwResetReach, hwResetEvents, ranOf]
  | false =>
    simp only [delay_eq, setGpio_eq]
    cases h1 : s.failsAt 1 <;> cases h2 : s.failsAt 2 <;>
      simp [hwResetStatus, hwResetReach, hwResetEvents, ranOf, h1, h2]

/-- DISPLAY's transfer (R159): three events on both paths, and no other change than the phase. -/
theorem sendFrame_eq (s : State) :
    sendFrame s = (if s.failsAt 0 then .error (.busTransactionError .xfer) else .ok (),
      (s.after (frameEvents s.frame) 1).inPhase .csOff) := by
  simp [sendFrame, setCs_eq, spiTransfer_eq, frameEvents]

/-! ### An operation as a whole -/

/-- A request to a busy block has no step (R37). -/
theorem whenIdle_busy (s t : State) (h : s.busy = true) : whenIdle s t = .refused .whileBusy := by
  simp [whenIdle, h]

theorem whenIdle_idle (s t : State) (h : s.busy = false) : whenIdle s t = .next t := by
  simp [whenIdle, h]

theorem whenIdle_next (s t u : State) (h : whenIdle s t = .next u) : s.busy = false ∧ u = t := by
  cases hb : s.busy <;> simp [whenIdle, hb] at h
  exact ⟨rfl, h.symm⟩

/-- An operation on an idle block with legal operands. -/
theorem operation_next (body : State → Response × State) (s : State) (h : s.busy = false) :
    operation true body s = .next ((body s.begin).2.finish (body s.begin).1) := whenIdle_idle s _ h

/-- An operation on a busy block is refused (R37). -/
theorem operation_busy (legal : Bool) (body : State → Response × State) (s : State) (h : s.busy = true) :
    operation legal body s = .refused .whileBusy := whenIdle_busy s _ h

/-- Operands outside their types are refused (R107). -/
theorem operation_illegal (body : State → Response × State) (s : State) (h : s.busy = false) :
    operation false body s = .next s.refuse := whenIdle_idle s _ h

/-- What an operation's next state can be. -/
theorem operation_cases (legal : Bool) (body : State → Response × State) (s t : State)
    (h : operation legal body s = .next t) :
    s.busy = false ∧
      (legal = false ∧ t = s.refuse ∨ legal = true ∧ t = (body s.begin).2.finish (body s.begin).1) := by
  obtain ⟨hb, rfl⟩ := whenIdle_next s _ t h
  exact ⟨hb, by cases legal <;> simp⟩

/-- The end of an operation that only appended events: the phase and BUSY it passed through are gone. -/
theorem finish_after_begin (s : State) (evs : List Event) (k : Nat) (p : Phase) (r : Response) :
    ((s.begin.after evs k).inPhase p).finish r = s.respond evs k r := rfl

/-- The end of an operation that emitted nothing and wrote nothing. -/
theorem finish_begin (s : State) (r : Response) : s.begin.finish r = s.respond [] 0 r := by
  simp [State.respond, State.after, State.begin, State.finish]

end Sys2Proof.Machine
end

