-- ==== Sys2Proof/Laws/PerInstr.lean ====
section
/-! SUPPORT. Per-instruction lemmas: byte 0 of every instruction's encoding matches its row of
spec/opcode_table.json (match and mask, R91, R96), and lies in the row's layer. -/

namespace Sys2Proof.Laws

/-- Byte 0 of a request: a host operation's code, a display command's first byte. -/
def byteZero : Request → Option Byte
  | .op code _ => some code
  | .command bytes => bytes.head?

/-- The row's match and mask, as spec/opcode_table.json gives them. -/
def rowOf : Instr → Byte × Byte
  | .init => (0x01#8, 0xFF#8)
  | .write _ => (0x02#8, 0xFF#8)
  | .display => (0x03#8, 0xFF#8)
  | .on => (0x04#8, 0xFF#8)
  | .off => (0x05#8, 0xFF#8)
  | .measure => (0x10#8, 0xFF#8)
  | .setgi _ _ => (0x20#8, 0xFF#8)
  | .lux => (0x21#8, 0xFF#8)
  | .config _ _ _ => (0x30#8, 0xFF#8)
  | .evaluate _ => (0x31#8, 0xFF#8)
  | .dimtick _ => (0x32#8, 0xFF#8)
  | .displayoff => (0xAE#8, 0xFF#8)
  | .setclockdiv _ => (0xD5#8, 0xFF#8)
  | .setmultiplex _ => (0xA8#8, 0xFF#8)
  | .setdisplayoffset _ => (0xD3#8, 0xFF#8)
  | .setstartline _ => (0x40#8, 0xC0#8)
  | .chargepump _ => (0x8D#8, 0xFF#8)
  | .memorymode _ => (0x20#8, 0xFF#8)
  | .segremap _ => (0xA0#8, 0xFE#8)
  | .comscandir _ => (0xC0#8, 0xF7#8)
  | .setcompins _ => (0xDA#8, 0xFF#8)
  | .setcontrast _ => (0x81#8, 0xFF#8)
  | .setprecharge _ => (0xD9#8, 0xFF#8)
  | .setvcomh _ => (0xDB#8, 0xFF#8)
  | .resumeram => (0xA4#8, 0xFF#8)
  | .normaldisplay => (0xA6#8, 0xFF#8)
  | .displayon => (0xAF#8, 0xFF#8)
  | .columnaddr _ _ => (0x21#8, 0xFF#8)
  | .pageaddr _ _ => (0x22#8, 0xFF#8)

/-- Byte 0 of the encoding matches the instruction's row. -/
def Opcode.Statement (i : Instr) : Prop :=
  (byteZero (encode i)).map (fun b => b &&& (rowOf i).2) = some (rowOf i).1

theorem Opcode.init : Opcode.Statement .init := rfl
theorem Opcode.write (data : List Byte) : Opcode.Statement (.write data) := by
  simp [Opcode.Statement, byteZero, encode, rowOf]
theorem Opcode.display : Opcode.Statement .display := rfl
theorem Opcode.on : Opcode.Statement .on := rfl
theorem Opcode.off : Opcode.Statement .off := rfl
theorem Opcode.measure : Opcode.Statement .measure := rfl
theorem Opcode.setgi (gain : Gain) (itime : Nat) : Opcode.Statement (.setgi gain itime) := by
  simp [Opcode.Statement, byteZero, encode, rowOf]
theorem Opcode.lux : Opcode.Statement .lux := rfl
theorem Opcode.config (fromTod : Int) (toTod : Int) (luxMin : Rat) : Opcode.Statement (.config fromTod toTod luxMin) := by
  simp [Opcode.Statement, byteZero, encode, rowOf]
theorem Opcode.evaluate (now : Int) : Opcode.Statement (.evaluate now) := by
  simp [Opcode.Statement, byteZero, encode, rowOf]
theorem Opcode.dimtick (now : Int) : Opcode.Statement (.dimtick now) := by
  simp [Opcode.Statement, byteZero, encode, rowOf]
theorem Opcode.displayoff : Opcode.Statement .displayoff := rfl
theorem Opcode.setclockdiv (a : Byte) : Opcode.Statement (.setclockdiv a) := by
  simp [Opcode.Statement, byteZero, encode, commandBytes, rowOf]
theorem Opcode.setmultiplex (a : Byte) : Opcode.Statement (.setmultiplex a) := by
  simp [Opcode.Statement, byteZero, encode, commandBytes, rowOf]
theorem Opcode.setdisplayoffset (a : Byte) : Opcode.Statement (.setdisplayoffset a) := by
  simp [Opcode.Statement, byteZero, encode, commandBytes, rowOf]
theorem Opcode.setstartline (n : BitVec 6) : Opcode.Statement (.setstartline n) := by
  revert n
  unfold Opcode.Statement
  decide +kernel
theorem Opcode.chargepump (a : Byte) : Opcode.Statement (.chargepump a) := by
  simp [Opcode.Statement, byteZero, encode, commandBytes, rowOf]
theorem Opcode.memorymode (a : Byte) : Opcode.Statement (.memorymode a) := by
  simp [Opcode.Statement, byteZero, encode, commandBytes, rowOf]
theorem Opcode.segremap (r : BitVec 1) : Opcode.Statement (.segremap r) := by
  revert r
  unfold Opcode.Statement
  decide +kernel
theorem Opcode.comscandir (d : BitVec 1) : Opcode.Statement (.comscandir d) := by
  revert d
  unfold Opcode.Statement
  decide +kernel
theorem Opcode.setcompins (a : Byte) : Opcode.Statement (.setcompins a) := by
  simp [Opcode.Statement, byteZero, encode, commandBytes, rowOf]
theorem Opcode.setcontrast (a : Byte) : Opcode.Statement (.setcontrast a) := by
  simp [Opcode.Statement, byteZero, encode, commandBytes, rowOf]
theorem Opcode.setprecharge (a : Byte) : Opcode.Statement (.setprecharge a) := by
  simp [Opcode.Statement, byteZero, encode, commandBytes, rowOf]
theorem Opcode.setvcomh (a : Byte) : Opcode.Statement (.setvcomh a) := by
  simp [Opcode.Statement, byteZero, encode, commandBytes, rowOf]
theorem Opcode.resumeram : Opcode.Statement .resumeram := rfl
theorem Opcode.normaldisplay : Opcode.Statement .normaldisplay := rfl
theorem Opcode.displayon : Opcode.Statement .displayon := rfl
theorem Opcode.columnaddr (a : Byte) (b : Byte) : Opcode.Statement (.columnaddr a b) := by
  simp [Opcode.Statement, byteZero, encode, commandBytes, rowOf]
theorem Opcode.pageaddr (a : Byte) (b : Byte) : Opcode.Statement (.pageaddr a b) := by
  simp [Opcode.Statement, byteZero, encode, commandBytes, rowOf]

end Sys2Proof.Laws
end

