-- ==== Sys2Proof/Laws/Units.lean ====
section
/-! SUPPORT. One lemma for each operation the sensor and dimming units share: LUX's bus cycle by what fails
(R229), the power command of a tick (R255, R256), and what every bus-only operation leaves alone. -/

namespace Sys2Proof.Machine

/-- The control and raw values are sums: the shifted bytes do not overlap (R206, R232). -/
theorem word16_eq (hi lo : Byte) : word16 hi lo = 256 * hi.toNat + lo.toNat := by
  have := lo.isLt
  unfold word16
  rw [← Nat.shiftLeft_add_eq_or_of_lt (by omega)]
  omega

/-- LUX's cycle with the enable write failing: one event (R229). -/
theorem luxCycle_enable_fails (g : Gain) (t : Nat) (s : State) (h : s.failsAt 0 = true) :
    luxCycle g t s = (.error (.busTransactionError .enable),
      (s.after ((luxEvents s.cfg t).take 1) 1).inPhase .enable) := by
  simp [luxCycle, busWrite_eq, h, luxEvents, lightEnable]

/-- LUX's cycle with the read failing: three events, no disable (R229). -/
theorem luxCycle_read_fails (g : Gain) (t : Nat) (s : State) (h : s.failsAt 0 = false)
    (h1 : s.failsAt 1 = true) :
    luxCycle g t s = (.error (.busTransactionError .read),
      (s.after ((luxEvents s.cfg t).take 3) 2).inPhase .read) := by
  simp [luxCycle, busWrite_eq, busWriteThenRead_eq, delay_eq, h, answerAt_of_fails s 1 h1, answerReply,
    luxEvents, lightEnable, luxWait]

/-- LUX's cycle with enable and read answered: four events and the rounded lux, whatever the disable write
answers (R224, R229). -/
theorem luxCycle_reads (g : Gain) (t : Nat) (s : State) (b : Reply) (h : s.failsAt 0 = false)
    (h1 : s.answerAt 1 = .ok b) :
    luxCycle g t s = (.ok (roundResult s.cfg.numRound (luxFormula g t (channel0 b) (channel1 b))),
      (s.after (luxEvents s.cfg t) 3).inPhase .compute) := by
  simp [luxCycle, busWrite_eq, busWriteThenRead_eq, delay_eq, h, h1, answerReply,
    luxEvents, lightEnable, lightDisable, luxWait]

/-- LUX's cycle is one of the three. -/
theorem luxCycle_cases (g : Gain) (t : Nat) (s : State) :
    (s.failsAt 0 = true ∧ luxCycle g t s = (.error (.busTransactionError .enable),
      (s.after ((luxEvents s.cfg t).take 1) 1).inPhase .enable)) ∨
    (s.failsAt 0 = false ∧ s.failsAt 1 = true ∧ luxCycle g t s = (.error (.busTransactionError .read),
      (s.after ((luxEvents s.cfg t).take 3) 2).inPhase .read)) ∨
    (∃ b, s.failsAt 0 = false ∧ s.answerAt 1 = .ok b ∧
      luxCycle g t s = (.ok (roundResult s.cfg.numRound (luxFormula g t (channel0 b) (channel1 b))),
        (s.after (luxEvents s.cfg t) 3).inPhase .compute)) := by
  rcases Bool.eq_false_or_eq_true (s.failsAt 0) with h | h
  · exact .inl ⟨h, luxCycle_enable_fails g t s h⟩
  · rcases Bool.eq_false_or_eq_true (s.failsAt 1) with h1 | h1
    · exact .inr (.inl ⟨h, h1, luxCycle_read_fails g t s h h1⟩)
    · obtain ⟨b, hb⟩ := answerAt_of_not_fails s 1 h1
      exact .inr (.inr ⟨b, h, hb, luxCycle_reads g t s b h hb⟩)

/-- The one byte of a power command. -/
def powerByte (wanted : Bool) : Byte := if wanted then 0xAF#8 else 0xAE#8

/-- A power command of a tick: WRITECMD of its byte, the error logged, the flag by the policy (R255 to R257). -/
theorem powerCommand_eq (w : Bool) (s : State) :
    powerCommand w s =
      (logged (ranOf (commandStatus (s.failsAt 0) (s.failsAt 1) (s.failsAt 2))),
        ((s.after (commandTrace s.cfg [powerByte w] (s.failsAt 0)) (commandCalls (s.failsAt 0))).inPhase
            (if s.failsAt 0 then .dcCmd else .dcData)).setDisplayOn
          (powerFlagAfter s.cfg.pwrFlagPolicy
            (ranOf (commandStatus (s.failsAt 0) (s.failsAt 1) (s.failsAt 2))) w s.displayOn)) := by
  cases w <;> simp only [powerCommand, powerOn, powerOff, writeCmd_eq, powerByte, cmdDisplayOn, cmdDisplayOff,
    if_true, Bool.false_eq_true, if_false] <;> rfl

/-- INIT inside an operation once its reset pulse succeeded: the whole pulse, then WRITECMD of the burst (R152). -/
theorem initDisplay_pulsed (s : State) (h0 : s.failsAt 0 = false) (h1 : s.failsAt 1 = false)
    (h2 : s.failsAt 2 = false) :
    initDisplay s = (ranOf (commandStatus (s.failsAt 3) (s.failsAt 4) (s.failsAt 5)),
      (s.after (hwResetEvents s.cfg ++ commandTrace s.cfg (initBurst s.cfg) (s.failsAt 3))
          (3 + commandCalls (s.failsAt 3))).inPhase (if s.failsAt 3 then .dcCmd else .dcData)) := by
  unfold initDisplay
  rw [hwReset_eq]
  simp only [h0, h1, h2, hwResetStatus, ranOf, hwResetReach, Bool.false_eq_true, if_false]
  rw [writeCmd_eq]
  simp [hwResetEvents]
  rfl

/-! ### Bus-only operations -/

/-- `t` is `s` after some well-formed bus events: the trace has grown by them, each answered one took one answer,
chip-select is where it was, and only the phase has moved besides. -/
def OnlyBus (s t : State) : Prop :=
  ∃ evs p, t = (s.after evs (evs.countP isAnswered)).inPhase p ∧
    evs.foldlM chipSelectStep .released = some .released

theorem OnlyBus.trans {s t u : State} (h1 : OnlyBus s t) (h2 : OnlyBus t u) : OnlyBus s u := by
  obtain ⟨e1, p1, rfl, c1⟩ := h1
  obtain ⟨e2, p2, rfl, c2⟩ := h2
  refine ⟨e1 ++ e2, p2, ?_, ?_⟩
  · simp [List.countP_append]
  · simp [List.foldlM_append, c1, c2]

theorem onlyBus_after (s : State) (evs : List Event) (k : Nat) (p : Phase)
    (hk : evs.countP isAnswered = k) (hc : evs.foldlM chipSelectStep .released = some .released) :
    OnlyBus s ((s.after evs k).inPhase p) := ⟨evs, p, by rw [hk], hc⟩

theorem writeCmd_onlyBus (l : List Byte) (s : State) : OnlyBus s (writeCmd l s).2 := by
  rw [writeCmd_eq]
  rcases Bool.eq_false_or_eq_true (s.failsAt 0) with h | h <;>
    exact onlyBus_after s _ _ _ (by rw [h]; rfl) (by rw [h]; rfl)

theorem sendFrame_onlyBus (s : State) : OnlyBus s (sendFrame s).2 := by
  rw [sendFrame_eq]
  exact onlyBus_after s _ _ _ rfl rfl

theorem hwReset_onlyBus (s : State) : OnlyBus s (hwReset s).2 := by
  rw [hwReset_eq]
  rcases Bool.eq_false_or_eq_true (s.failsAt 0) with h | h <;>
    rcases Bool.eq_false_or_eq_true (s.failsAt 1) with h1 | h1 <;>
    exact onlyBus_after s _ _ _ (by rw [h, h1]; rfl) (by rw [h, h1]; rfl)

theorem luxCycle_onlyBus (g : Gain) (t : Nat) (s : State) : OnlyBus s (luxCycle g t s).2 := by
  rcases luxCycle_cases g t s with ⟨_, h⟩ | ⟨_, _, h⟩ | ⟨_, _, _, h⟩ <;>
    (rw [h]; exact onlyBus_after s _ _ _ rfl rfl)

theorem readLux_onlyBus (s : State) : OnlyBus s (readLux s).2 := by
  unfold readLux
  split
  · exact luxCycle_onlyBus _ _ s
  · exact ⟨[], s.phase, by simp [State.after, State.inPhase], rfl⟩

end Sys2Proof.Machine
end

