-- ==== Sys2Proof/Laws/Write.lean ====
section
/-! SUPPORT. WRITE's loop, one pixel at a time and over a list in two parts (R154, R158, R181). -/

namespace Sys2Proof.Machine

/-- A pixel stored and the cursor moved on: one round of WRITE's loop without the flush (R155, R156). -/
def State.putPixel (s : State) (v : Byte) : State := (s.storePixel v).advance

/-- WRITE's loop inside a frame (R154). -/
theorem writePixels_inside (v : Byte) (vs : List Byte) (n : Nat) (s : State) (h : s.atFrameEnd = false) :
    writePixels (v :: vs) n s = writePixels vs (n + 1) (s.putPixel v) := by
  simp [writePixels, State.putPixel, h]

/-- WRITE's loop at the end of a frame whose flush succeeds (R157). -/
theorem writePixels_flush (v : Byte) (vs : List Byte) (n : Nat) (s : State) (h : s.atFrameEnd = true)
    (ho : s.failsAt 0 = false) :
    writePixels (v :: vs) n s = writePixels vs (n + 1)
      (((s.putPixel v).after (frameEvents (s.putPixel v).frame) 1).inPhase .csOff) := by
  simp [writePixels, State.putPixel, h, sendFrame_eq, ho]

/-- WRITE's loop at the end of a frame whose flush fails: it stops, this byte counted (R158). -/
theorem writePixels_flush_fails (v : Byte) (vs : List Byte) (n : Nat) (s : State) (h : s.atFrameEnd = true)
    (ho : s.failsAt 0 = true) :
    writePixels (v :: vs) n s = (n + 1, .error (.busTransactionError .xfer),
      ((s.putPixel v).after (frameEvents (s.putPixel v).frame) 1).inPhase .csOff) := by
  simp [writePixels, State.putPixel, h, sendFrame_eq, ho]

/-- WRITE's loop over a list in two parts: the second follows unless the first ended in an error (R181). -/
theorem writePixels_append (a b : List Byte) (n : Nat) (s : State) :
    writePixels (a ++ b) n s =
      match writePixels a n s with
      | (m, .ok _, t) => writePixels b m t
      | (m, .error e, t) => (m, .error e, t) := by
  induction a generalizing n s with
  | nil => simp [writePixels]
  | cons v vs ih =>
    rcases Bool.eq_false_or_eq_true s.atFrameEnd with h | h
    · rcases Bool.eq_false_or_eq_true (s.failsAt 0) with ho | ho
      · simp [writePixels_flush_fails _ _ _ _ h ho]
      · simp [writePixels_flush _ _ _ _ h ho, ih]
    · simp [writePixels_inside _ _ _ _ h, ih]

/-- A pixel moves the linear position on by one, modulo a frame (R156). -/
theorem putPixel_position (s : State) (v : Byte) :
    (s.putPixel v).curY.val * 128 + (s.putPixel v).curX.val = (s.curY.val * 128 + s.curX.val + 1) % 8192 := by
  simp [State.putPixel, State.advance_position]

end Sys2Proof.Machine
end

