-- ==== Sys2Proof/Machine/Statistics.lean ====
section
/-! DEFINITION. The Interface Statistics Reader's decoding (spec/44_statistics_appendix.md R282, R283), outside the
block: pure functions that no step uses (log 20). -/

namespace Sys2Proof.Machine

/-- The four counters, unsigned 64-bit values (R280). -/
structure Counters where
  rxPackets : Nat
  txPackets : Nat
  rxBytes : Nat
  txBytes : Nat
  deriving DecidableEq, Repr

/-- What the reader can report instead of counters (R282, R283). -/
inductive StatsError where
  /-- No reply message. -/
  | noData
  /-- A reply shorter than 48 bytes, refused (D35). -/
  | shortReply
  deriving DecidableEq, Repr

/-- A little-endian number. -/
def littleEndian : List Byte → Nat
  | [] => 0
  | b :: bs => b.toNat + 256 * littleEndian bs

/-- STATS_DECODE (R283): a 16-byte header is skipped, then four little-endian 64-bit fields. -/
def statsDecode (m : List Byte) : Except StatsError Counters :=
  if m.length < 48 then .error .shortReply
  else .ok
    { rxPackets := littleEndian ((m.drop 16).take 8), txPackets := littleEndian ((m.drop 24).take 8),
      rxBytes := littleEndian ((m.drop 32).take 8), txBytes := littleEndian ((m.drop 40).take 8) }

/-- The reply's handling (R282): the first message is decoded, none is NoDataError. -/
def statsRead (replies : List (List Byte)) : Except StatsError Counters :=
  match replies with
  | [] => .error .noData
  | m :: _ => statsDecode m

end Sys2Proof.Machine
end

