-- ==== Sys2Proof/Tests/Slice0.lean ====
section
/-! SUPPORT. Tests against spec/95_test_vectors.md (each names its vector) and words written out from the tables of
spec/30_encoding.md; and, for each statement with hypotheses, a state and operands that meet them. -/

namespace Sys2Proof.Tests

open Sys2Proof Sys2Proof.Machine

/-! ### The bench: the spec's defaults with reset on pin 4 and D/C on pin 5 -/

/-- A successful answer with these bytes (0 beyond them). -/
def reply (l : List Byte) : BusAnswer :=
  .ok ⟨l.getD 0 0#8, l.getD 1 0#8, l.getD 2 0#8, l.getD 3 0#8, l.getD 4 0#8, l.getD 5 0#8⟩

/-- A successful answer. -/
def okay : BusAnswer := reply []

/-- The reset state with the pins fixed and these answers to come. -/
def bench (answers : List BusAnswer) : State :=
  { State.reset with cfg := defaultsWithPins 4 5, oracle := answers }

/-- The bench with one host request to come. -/
def asked (code : Byte) (operands : List Operand) (answers : List BusAnswer) : State :=
  { bench answers with requests := [⟨code, operands⟩] }

/-- The bench with bytes for the encoder. -/
def encoding (bytes : List Byte) : State := { bench [] with bench := some bytes }

/-- The bench with the cursor on the last pixel. -/
def lastPixel (answers : List BusAnswer) : State := { bench answers with curX := 127, curY := 63 }

/-- The bench after `SETGI high, 0` and `CONFIG 73800, 27000, 5`. -/
def night (answers : List BusAnswer) : State :=
  { bench answers with
      gain := some .high, itime := some 0, fromTod := some 73800, toTod := some 27000, luxMin := some 5 }

/-- The night bench while active until 113400. -/
def active (answers : List BusAnswer) (on : Bool) : State :=
  { night answers with nextEval := .time 113400, luxActive := true, displayOn := on }

/-- The next state of an outcome. -/
def ended : Host.Outcome State Fault Refusal → Option State
  | .next t => some t
  | .fault _ => none
  | .refused _ => none

/-- Channel replies A and B of the spec's vectors. -/
def channelsA : BusAnswer := reply [0xE8#8, 0x03#8, 0xF4#8, 0x01#8]
def channelsB : BusAnswer := reply [0x10#8, 0x27#8, 0xE8#8, 0x03#8]

/-- The spec's `WC(l)`, `HR`, `LX(w)` and `IB` on the bench. -/
def wc (l : List Byte) : List Event :=
  [.gpio 5 true false, .cs true, .spi l, .cs false, .gpio 5 true true]
def hr : List Event := [.gpio 4 true true, .delay 1, .gpio 4 true false, .delay 10, .gpio 4 true true]
def lx (w : Nat) : List Event :=
  [.i2cWrite 0x29 [0xA0#8, 0x03#8], .delay w, .i2cWriteRead 0x29 [0xB4#8] 4, .i2cWrite 0x29 [0xA0#8, 0x00#8]]
def ib : List Byte :=
  [0xAE#8, 0xD5#8, 0x80#8, 0xA8#8, 0x3F#8, 0xD3#8, 0x00#8, 0x40#8, 0x8D#8, 0x14#8, 0x20#8, 0x00#8, 0xA1#8, 0xC8#8,
   0xDA#8, 0x12#8, 0x81#8, 0x00#8, 0xD9#8, 0xF1#8, 0xDB#8, 0x40#8, 0xA4#8, 0xA6#8, 0xAF#8, 0x21#8, 0x00#8, 0x7F#8,
   0x22#8, 0x00#8, 0x07#8]

/-! ### WellFormed: a term that each check refuses -/

theorem test_wellFormed_refuses_itime_6 : (Instr.setgi .high 6).wellFormed = false := by decide

theorem test_wellFormed_refuses_config :
    (Instr.config (-1) 0 0).wellFormed = false ∧ (Instr.config 86400 0 0).wellFormed = false ∧
    (Instr.config 0 (-1) 0).wellFormed = false ∧ (Instr.config 0 86400 0).wellFormed = false := by decide

theorem test_wellFormed_admits_the_bounds :
    (Instr.setgi .max 5).wellFormed = true ∧ (Instr.config 0 86399 (-1)).wellFormed = true := by decide

theorem test_params_refuse_one_pin_for_two : (defaultsWithPins 4 4).wellFormed = false := by decide

/-! ### Decoding, words from R92 and R96 -/

theorem test_decode_host_codes :
    decode (.op 0x01#8 []) = .ok .init ∧ decode (.op 0x02#8 [.bytes [7#8]]) = .ok (.write [7#8]) ∧
    decode (.op 0x03#8 []) = .ok .display ∧ decode (.op 0x04#8 []) = .ok .on ∧
    decode (.op 0x05#8 []) = .ok .off ∧ decode (.op 0x10#8 []) = .ok .measure ∧
    decode (.op 0x20#8 [.num 3, .num 5]) = .ok (.setgi .max 5) ∧ decode (.op 0x21#8 []) = .ok .lux := by
  decide

theorem test_decode_dimming_codes :
    decode (.op 0x30#8 [.num 73800, .num 27000, .rat 5]) = .ok (.config 73800 27000 5) ∧
    decode (.op 0x31#8 [.num (-1)]) = .ok (.evaluate (-1)) ∧
    decode (.op 0x32#8 [.num 28800]) = .ok (.dimtick 28800) := by decide +kernel

/-- E1 to E21, read back. -/
theorem test_decode_one_byte_commands :
    decode (.command [0xAE#8]) = .ok .displayoff ∧ decode (.command [0xAF#8]) = .ok .displayon ∧
    decode (.command [0x40#8]) = .ok (.setstartline 0#6) ∧ decode (.command [0x7F#8]) = .ok (.setstartline 63#6) ∧
    decode (.command [0xA1#8]) = .ok (.segremap 1#1) ∧ decode (.command [0xA0#8]) = .ok (.segremap 0#1) ∧
    decode (.command [0xC8#8]) = .ok (.comscandir 1#1) ∧ decode (.command [0xC0#8]) = .ok (.comscandir 0#1) ∧
    decode (.command [0xA4#8]) = .ok .resumeram ∧ decode (.command [0xA6#8]) = .ok .normaldisplay := by decide

theorem test_decode_longer_commands :
    decode (.command [0xD5#8, 0x80#8]) = .ok (.setclockdiv 0x80#8) ∧
    decode (.command [0xA8#8, 0x3F#8]) = .ok (.setmultiplex 63#8) ∧
    decode (.command [0xD3#8, 0x00#8]) = .ok (.setdisplayoffset 0#8) ∧
    decode (.command [0x8D#8, 0x14#8]) = .ok (.chargepump 0x14#8) ∧
    decode (.command [0x20#8, 0x00#8]) = .ok (.memorymode 0#8) ∧
    decode (.command [0xDA#8, 0x12#8]) = .ok (.setcompins 0x12#8) ∧
    decode (.command [0x81#8, 0x00#8]) = .ok (.setcontrast 0#8) ∧
    decode (.command [0xD9#8, 0xF1#8]) = .ok (.setprecharge 0xF1#8) ∧
    decode (.command [0xDB#8, 0x40#8]) = .ok (.setvcomh 0x40#8) ∧
    decode (.command [0x21#8, 0x00#8, 0x7F#8]) = .ok (.columnaddr 0#8 127#8) ∧
    decode (.command [0x22#8, 0x00#8, 0x07#8]) = .ok (.pageaddr 0#8 7#8) := by decide

theorem test_decode_rejects :
    decode (.op 0x33#8 []) = .error (.reservedCode 0x33#8) ∧
    decode (.op 0x04#8 [.num 0]) = .error .operandFields ∧
    decode (.op 0x20#8 [.num 4, .num 0]) = .error .gainOutOfRange ∧
    decode (.op 0x20#8 [.num 2, .num (-1)]) = .error .itimeOutOfRange ∧
    decode (.op 0x30#8 [.num 86400, .num 0, .rat 0]) = .error .timeOfDayOutOfRange ∧
    decode (.command [0xC1#8]) = .error (.unknownCommand 0xC1#8) ∧
    decode (.command [0xD5#8]) = .error .commandLength ∧
    decode (.command [0xAE#8, 0xAF#8]) = .error .commandLength := by decide

/-- The lengths of IB (95_test_vectors.md 2.1). -/
theorem test_burst_lengths :
    (match parseBurst ib with
      | .ok is => is.map (fun i => (commandBytes i).length)
      | .error _ => []) = [1, 2, 2, 2, 1, 2, 2, 1, 1, 2, 2, 2, 2, 1, 1, 1, 3, 3] := by decide

theorem test_table_words :
    decodeTableWord 8 0x04 = some .on ∧ decodeTableWord 8 0x7F = some (.setstartline 63#6) ∧
    decodeTableWord 16 0x3FA8 = some (.setmultiplex 63#8) ∧ decodeTableWord 8 0xA8 = some (.setmultiplex 0#8) ∧
    decodeTableWord 24 0x070022 = some (.pageaddr 0#8 7#8) ∧ decodeTableWord 8 0x20 = some (.setgi .low 0) ∧
    decodeTableWord 16 0x0020 = some (.memorymode 0#8) ∧ decodeTableWord 24 0x7F0021 = some (.columnaddr 0#8 127#8) ∧
    decodeTableWord 8 0x33 = none := by decide

theorem test_step_runs_the_placed_word :
    (ended (step ((bench [okay, okay, okay]).withFetchWord 8 0x04))).map (fun t => (t.trace, t.requests)) =
      some (wc [0xAF#8], []) := by decide

/-- E4: a display command runs as the encoder, and sends nothing. -/
theorem test_step_runs_the_placed_command :
    (ended (step ((bench []).withFetchWord 16 0x3FA8))).map (fun t => (t.trace, t.bench, t.response)) =
      some ([], none, some ⟨.ok, .bytes [0xA8#8, 0x3F#8], []⟩) := by decide +kernel

/-- R37: a request while BUSY has no step. -/
theorem test_busy_has_no_step :
    (ended (step { asked 0x04#8 [] [okay] with busy := true })).isNone = true := by decide

/-! ### The Display unit -/

/-- D1. -/
theorem test_init : (ended (exec .init (bench (List.replicate 6 okay)))).map (fun t => (t.trace, t.response)) =
    some (hr ++ wc ib, some ⟨.ok, .none, []⟩) := by decide +kernel

/-- D24. -/
theorem test_init_reset_low_fails :
    (ended (exec .init (bench [okay, .error]))).map (fun t => (t.trace, t.response)) =
      some (hr.take 3, some ⟨.busTransactionError .rstLo, .none, []⟩) := by decide +kernel

/-- D2: four pixels, the threshold strict. -/
theorem test_write :
    (ended (exec (.write [200#8, 10#8, 65#8, 64#8]) (bench []))).map
        (fun t => (t.fb, t.curX, t.curY, t.asked, t.response)) =
      some ([(0, 0x01#8), (2, 0x01#8)], 4, 0, 0, some ⟨.ok, .count 4, []⟩) := by decide +kernel

/-- D5b's wrap, on an empty frame, with a byte left over when the flush fails (R158). -/
theorem test_write_last_pixel :
    (ended (exec (.write [65#8, 255#8]) (lastPixel [.error]))).map
        (fun t => (t.fb, t.curX, t.curY, t.asked, t.response)) =
      some ([(1023, 0x80#8)], 0, 0, 1, some ⟨.busTransactionError .xfer, .count 1, []⟩) := by decide +kernel

/-- D15's shape, with one byte of the frame set. -/
theorem test_display :
    (ended (exec .display { bench [okay] with fb := [(1, 0x55#8)] })).map (fun t =>
        match t.trace with
        | [.cs true, .spi l, .cs false] => l.take 3
        | _ => []) = some [0x00#8, 0x55#8, 0x00#8] := by decide +kernel

/-- D26. -/
theorem test_display_fails :
    (ended (exec .display (bench [.error]))).map (fun t => (t.trace.length, t.response)) =
      some (3, some ⟨.busTransactionError .xfer, .none, []⟩) := by decide +kernel

/-- D20. -/
theorem test_on_dc_fails : (ended (exec .on (bench [.error]))).map (fun t => (t.trace, t.response)) =
    some ([.gpio 5 true false], some ⟨.busTransactionError .dcCmd, .none, []⟩) := by decide

/-- D14: ON writes no flag (R180). -/
theorem test_on :
    (ended (exec .on { bench [okay, okay, okay] with displayOn := false })).map (fun t => (t.trace, t.displayOn)) =
      some (wc [0xAF#8], false) := by decide

/-- D23: the first failure decides, and the D/C line is restored. -/
theorem test_off_fails_twice :
    (ended (exec .off (bench [okay, .error, .error]))).map (fun t => (t.trace, t.response)) =
      some (wc [0xAE#8], some ⟨.busTransactionError .xfer, .none, []⟩) := by decide

/-- D14. -/
theorem test_off :
    (ended (exec .off (bench [okay, okay, okay]))).map (fun t => (t.trace, t.displayOn)) =
      some (wc [0xAE#8], true) := by decide

/-- E7. -/
theorem test_setstartline :
    (ended (exec (.setstartline 63#6) (bench []))).map (fun t => t.response) =
      some (some ⟨.ok, .bytes [0x7F#8], []⟩) := by decide +kernel

/-- E20. -/
theorem test_columnaddr :
    (ended (exec (.columnaddr 0#8 127#8) (bench []))).map (fun t => (t.response, t.trace)) =
      some (some ⟨.ok, .bytes [0x21#8, 0x00#8, 0x7F#8], []⟩, []) := by decide +kernel

/-- R314: the failed first call of an ON drives nothing. -/
theorem test_line_after_failed_on :
    (ended (exec .on (bench [.error]))).map (fun t => t.pinLevel 5) = some none := by decide

/-- R313: the reset line stays high when the call that was to lower it fails. -/
theorem test_line_after_failed_reset :
    (ended (exec .init (bench [okay, .error]))).map (fun t => t.pinLevel 4) = some (some true) := by decide

/-! ### The sensors -/

/-- P4's last request. -/
theorem test_measure :
    (ended (exec .measure (bench [okay, reply [0x66#8, 0x66#8, 0x00#8, 0x99#8, 0x99#8, 0x00#8]]))).map
        (fun t => (t.trace, t.response)) =
      some ([.i2cWrite 0x44 [0xFD#8], .delay 10, .i2cRead 0x44 6], some ⟨.ok, .measure 25 69, []⟩) := by
  decide +kernel

/-- P4's first request. -/
theorem test_measure_read_fails :
    (ended (exec .measure (bench [okay, .error]))).map (fun t => (t.trace.length, t.response)) =
      some (3, some ⟨.busTransactionError .read, .none, []⟩) := by decide +kernel

/-- L1d. -/
theorem test_setgi :
    (ended (exec (.setgi .max 5) (bench [okay]))).map (fun t => (t.trace, t.gain, t.itime)) =
      some ([.i2cWrite 0x29 [0xA1#8, 0x35#8]], some .max, some 5) := by decide +kernel

/-- L2. -/
theorem test_setgi_fails :
    (ended (exec (.setgi .low 3) (night [.error]))).map (fun t => (t.response, t.gain, t.itime)) =
      some (some ⟨.busTransactionError .write, .none, []⟩, some .high, some 0) := by decide +kernel

/-- L3, and L23: a failed disable is ignored. -/
theorem test_lux :
    (ended (exec .lux (night [okay, channelsA, .error]))).map (fun t => (t.trace, t.response)) =
      some (lx 120, some ⟨.ok, .lux (255 / 107), []⟩) := by decide +kernel

/-- L5b: the other end of gain and integration time. -/
theorem test_lux_max_gain :
    (ended (exec .lux { night [okay, reply [0xFF#8, 0xFF#8], okay] with
        gain := some .max, itime := some 5 })).map (fun t => (t.trace, t.response)) =
      some (lx 620, some ⟨.ok, .lux (74273 / 16460), []⟩) := by decide +kernel

/-- L6, L7, L10 and L12. -/
theorem test_lux_formula :
    luxFormula .high 0 0 500 = 0 ∧ luxFormula .high 0 500 1000 = 510 / 107 ∧
    luxFormula .medium 2 65535 65535 = 0 ∧ luxFormula .medium 1 2000 100 = 18411 / 125 := by decide +kernel

/-! ### The Dimming unit -/

/-- M33's CONFIG: LUX_ACTIVE and DISPLAY_ON are kept. -/
theorem test_config :
    (ended (exec (.config 3600 18000 5) (active [] false))).map
        (fun t => (t.fromTod, t.toTod, t.nextEval, t.luxActive, t.displayOn)) =
      some (some 3600, some 18000, .due, true, false) := by decide +kernel

/-- M9: the floor remainder. -/
theorem test_evaluate :
    (ended (exec (.evaluate (-1)) (night []))).map (fun t => t.response) =
      some (some ⟨.ok, .window 27000 true, []⟩) := by decide +kernel

/-- M2, M3, M4, M8 and M12. -/
theorem test_window :
    windowAt 73800 27000 27000 = (false, 73800) ∧ windowAt 73800 27000 73799 = (false, 73800) ∧
    windowAt 73800 27000 73800 = (true, 113400) ∧ windowAt 73800 27000 334800 = (true, 372600) ∧
    windowAt 3600 18000 18000 = (true, 104400) := by decide

/-- M21. -/
theorem test_dimtick :
    (ended (exec (.dimtick 75600) (night [okay, channelsA, okay, okay, okay, okay]))).map
        (fun t => (t.trace, t.response)) =
      some (lx 120 ++ wc [0xAE#8], some ⟨.ok, .tick 113400 true false, []⟩) := by decide +kernel

/-- M26 with the forced ON failing under on_success. -/
theorem test_dimtick_forced_on :
    (ended (exec (.dimtick 113400) (active [okay, .error, okay] true))).map (fun t => (t.trace, t.response)) =
      some (wc [0xAF#8], some ⟨.ok, .tick 160200 false true, [.busTransactionError .xfer]⟩) := by decide +kernel

/-! ### Outside the block -/

/-- S6. -/
theorem test_statistics :
    statsRead [List.replicate 16 0xEE#8 ++ [1#8, 0#8, 0#8, 0#8, 0#8, 0#8, 0#8, 0#8]
        ++ [2#8, 0#8, 0#8, 0#8, 0#8, 0#8, 0#8, 0#8] ++ [0#8, 1#8, 0#8, 0#8, 0#8, 0#8, 0#8, 0#8]
        ++ List.replicate 8 0xFF#8] = .ok ⟨1, 2, 256, 18446744073709551615⟩ ∧
    statsRead [] = .error .noData := by decide +kernel

/-- R307's codes. -/
theorem test_status_codes :
    [statusCode .ok, statusCode (.busTransactionError .xfer), statusCode .configUnset, statusCode .refused] =
      [0x00#8, 0x01#8, 0x02#8, 0x03#8] := by decide

/-! ### Witnesses: states and operands that meet each statement's hypotheses -/

theorem witness_DecodeOfEncodeIsTheInstruction :
    (Instr.setgi .max 5).wellFormed = true ∧ (Instr.config 0 86399 (-1)).wellFormed = true ∧
    (Instr.setstartline 63#6).wellFormed = true := by decide

theorem witness_EncodeOfDecodeIsTheRequest :
    decode (.op 0x20#8 [.num 3, .num 5]) = .ok (.setgi .max 5) ∧
    decode (.command [0x7F#8]) = .ok (.setstartline 63#6) := by decide

theorem witness_DecodedInstructionsAreWellFormed :
    decode (.op 0x20#8 [.num 0, .num 5]) = .ok (.setgi .low 5) ∧
    decode (.op 0x30#8 [.num 0, .num 86399, .rat 0]) = .ok (.config 0 86399 0) := by decide +kernel

theorem witness_CommandBurstsReadBack :
    ∀ i ∈ [Instr.setvcomh 0x40#8, .setstartline 63#6, .columnaddr 0#8 127#8], isHostOperation i = false := by decide

theorem witness_StepRunsTheDecodedRequest :
    ((asked 0x04#8 [] [okay]).bench = none ∧ (asked 0x04#8 [] [okay]).requests = [⟨0x04#8, []⟩] ∧
      decode (.op 0x04#8 []) = .ok .on) ∧
    ((encoding [0x7F#8]).bench = some [0x7F#8] ∧ decode (.command [0x7F#8]) = .ok (.setstartline 63#6)) := by decide

theorem witness_IdleBlockWaitsForTheHost : (bench []).bench = none ∧ (bench []).requests = [] := by
  decide

/-- Codes next to each listed range, and both ends of the byte. -/
theorem witness_ReservedCodesAreRefused :
    ((asked 0x33#8 [] []).busy = false ∧ (asked 0x33#8 [] []).bench = none ∧
      (asked 0x33#8 [] []).requests = [⟨0x33#8, []⟩]) ∧
    ∀ code ∈ [0x00#8, 0x06#8, 0x0F#8, 0x11#8, 0x1F#8, 0x22#8, 0x2F#8, 0x33#8, 0xFF#8],
      code ∉ [0x01#8, 0x02#8, 0x03#8, 0x04#8, 0x05#8, 0x10#8, 0x20#8, 0x21#8, 0x30#8, 0x31#8, 0x32#8] := by decide

theorem witness_IllegalOperandsAreRefused :
    (bench []).busy = false ∧ 5 < 6 ∧ ∀ p ∈ [((-1 : Int), (0 : Int)), (86400, 0), (0, -1), (0, 86400)],
      p.1 < 0 ∨ 86399 < p.1 ∨ p.2 < 0 ∨ 86399 < p.2 := by decide

theorem witness_IllegalRequestsAreRefused :
    ((asked 0x20#8 [.num 0, .num 6] []).busy = false ∧ (asked 0x20#8 [.num 0, .num 6] []).bench = none ∧
      (asked 0x20#8 [.num 0, .num 6] []).requests = [⟨0x20#8, [.num 0, .num 6]⟩] ∧
      decode (.op 0x20#8 [.num 0, .num 6]) = .error .itimeOutOfRange) ∧
    ((encoding [0xC1#8]).busy = false ∧ (encoding [0xC1#8]).bench = some [0xC1#8] ∧
      decode (.command [0xC1#8]) = .error (.unknownCommand 0xC1#8)) := by decide

/-- A host request, and bytes for the encoder, each while BUSY. -/
theorem witness_BusyBlockRefusesEveryInstruction :
    (({ asked 0x04#8 [] [] with busy := true } : State).busy = true ∧
      ({ asked 0x04#8 [] [] with busy := true } : State).requests ≠ []) ∧
    (({ encoding [0xAE#8] with busy := true } : State).busy = true ∧
      ({ encoding [0xAE#8] with busy := true } : State).bench.isSome = true) := by decide

theorem witness_EveryOperationReturnsToIdle :
    (Instr.setgi .low 5).wellFormed = true ∧ (bench [.error]).busy = false := by decide

/-- An invariant state away from reset: configured, active, a byte listed, events sent. -/
def lived : State :=
  { active [okay, okay, okay] false with
      fb := [(1023, 0x80#8)], trace := wc [0xAE#8], answers := [okay, okay, okay], asked := 3,
      requests := [⟨0x04#8, []⟩] }

theorem witness_StepKeepsTheInvariant : lived.Inv ∧ ∃ t, step lived = .next t :=
  ⟨by decide +kernel, _, rfl⟩

theorem witness_StepKeepsTheChipSelectDiscipline :
    chipSelectAfter lived.trace = some .released ∧ ∃ t, step lived = .next t := ⟨by decide, _, rfl⟩

theorem witness_TraceGrowsByAnsweredEvents : ∃ t, exec .measure (bench [okay, okay]) = .next t := ⟨_, rfl⟩

/-- For each clause an instruction it speaks of, and for WRITE, SETGI, CONFIG and DIMTICK the others. -/
theorem witness_RegistersAreWrittenOnlyByTheirOperations :
    (∃ t, exec (.write [255#8]) (bench []) = .next t) ∧ (∃ t, exec (.setgi .low 0) (bench [okay]) = .next t) ∧
    (∃ t, exec (.config 0 0 0) (bench []) = .next t) ∧ (∃ t, exec (.dimtick 0) (night []) = .next t) :=
  ⟨⟨_, rfl⟩, ⟨_, rfl⟩, ⟨_, rfl⟩, ⟨_, rfl⟩⟩

theorem witness_OnlyWriteChangesTheFramebuffer :
    (∀ data, Instr.display ≠ .write data) ∧ ∃ t, exec .display (bench [okay]) = .next t :=
  ⟨(by intro data h; cases h), _, rfl⟩

theorem witness_InstructionsSendOnlyTheirPayloads :
    (∃ t, exec .init (bench (List.replicate 6 okay)) = .next t) ∧
    (∃ t, exec (.dimtick 75600) (night [okay, channelsA]) = .next t) ∧
    (∃ t, exec (.setcontrast 0x55#8) (bench []) = .next t) := ⟨⟨_, rfl⟩, ⟨_, rfl⟩, ⟨_, rfl⟩⟩

theorem witness_StepLeavesTheBenchEmpty :
    (∃ t, step (encoding [0xAE#8]) = .next t) ∧ (∃ t, step (asked 0x04#8 [] [okay]) = .next t) :=
  ⟨⟨_, rfl⟩, ⟨_, rfl⟩⟩

theorem witness_GainFollowsTheLastSuccessfulWrite :
    ((bench [okay]).failsAt 0 = false ∧ (bench [.error]).failsAt 0 = true) ∧
    (∃ t, exec (.setgi .high 5) (bench [okay]) = .next t) ∧ (∃ t, exec (.setgi .high 5) (bench [.error]) = .next t) ∧
    (∃ t, exec (.setgi .high 6) (bench [okay]) = .next t) :=
  ⟨by decide, ⟨_, rfl⟩, ⟨_, rfl⟩, ⟨_, rfl⟩⟩

/-- Each of a WRITECMD's four outcomes is reached. -/
theorem witness_OnAndOffSendOneCommandByte :
    (bench []).busy = false ∧ (bench [.error]).failsAt 0 = true ∧
    (bench [okay, .error]).failsAt 1 = true ∧ (bench [okay, okay, .error]).failsAt 2 = true ∧
    (bench [okay, okay, okay]).failsAt 2 = false := by decide

/-- Each of INIT's outcomes is reached: the failing call is any of the six, or none. -/
theorem witness_InitPulsesResetThenSendsTheBurst :
    (bench []).busy = false ∧
    ∀ k < 7, ∀ j < 6, (bench (List.replicate k okay ++ .error :: List.replicate 6 okay)).failsAt j =
      decide (j = k) := by decide +kernel

theorem witness_InitLeavesTheLinesAtRest :
    (bench []).busy = false ∧ (bench []).cfg.wellFormed = true ∧ chipSelectAfter (bench []).trace = some .released ∧
    (bench []).Answered ∧
    ∃ t, exec .init (bench (List.replicate 6 okay)) = .next t ∧ t.response = some ⟨.ok, .none, []⟩ :=
  ⟨by decide, by decide, by decide, by decide, _, rfl, by decide +kernel⟩

/-- INIT failing at each of its reset calls; ON failing at its first call and at its restore. -/
theorem witness_FailedCallsLeaveTheLines :
    (lived.busy = false ∧ lived.cfg.wellFormed = true ∧ lived.Answered) ∧
    ((bench [.error]).Answered ∧ (bench [.error]).failsAt 0 = true ∧ (bench [okay, .error]).failsAt 1 = true ∧
      (bench [okay, okay, .error]).failsAt 2 = true) ∧
    (∃ t, exec .init (bench [okay, .error]) = .next t) ∧ (∃ t, exec .on (bench [okay, okay, .error]) = .next t) ∧
    (∃ t, exec .off (bench [.error]) = .next t) :=
  ⟨by decide, by decide, ⟨_, rfl⟩, ⟨_, rfl⟩, ⟨_, rfl⟩⟩

theorem witness_DisplaySendsTheWholeFramebuffer :
    (bench []).busy = false ∧ (bench [okay]).failsAt 0 = false ∧ (bench [.error]).failsAt 0 = true := by decide

/-- The WRITECMD of INIT failing at its first call, at its transfer, at its restore, and not at all. -/
theorem witness_InitPastItsPulseLeavesTheLines :
    (lived.busy = false ∧ lived.cfg.wellFormed = true ∧ lived.Answered) ∧
    (∀ k < 7, 2 < k → ∀ j < 6, (bench (List.replicate k okay ++ .error :: List.replicate 6 okay)).failsAt j =
      decide (j = k)) ∧
    ((bench (List.replicate 6 okay)).busy = false ∧ (bench (List.replicate 6 okay)).cfg.wellFormed = true ∧
      (bench (List.replicate 6 okay)).Answered) ∧
    (∃ t, exec .init (bench [okay, okay, okay, .error]) = .next t) :=
  ⟨by decide, by decide +kernel, by decide, _, rfl⟩

/-- The longest such WRITE from (0, 0), and none from the last pixel. -/
theorem witness_WriteInsideAFrameEmitsNothing :
    (bench []).busy = false ∧ (bench []).position + (List.replicate 8191 255#8).length < 8192 ∧
    (lastPixel []).busy = false ∧ (lastPixel []).position + ([] : List Byte).length < 8192 := by
  simp only [List.length_replicate]; decide

theorem witness_WriteAssignsTheAddressedPixels :
    (lastPixel []).busy = false ∧ Memory.wf (lastPixel []).cfg (lastPixel []).fb ∧
    (lastPixel []).position + [255#8].length ≤ 8192 := by decide

theorem witness_WriteLeavesEverythingElse :
    (lastPixel []).busy = false ∧ ∀ k < [255#8].length,
      (0 : Nat) ≠ ((lastPixel []).position + k) % 8192 / 128 / 8 * 128 + ((lastPixel []).position + k) % 8192 % 128 :=
  by decide

theorem witness_FullFrameWritePacksAndFlushesOnce :
    (bench []).busy = false ∧ Memory.wf (bench []).cfg (bench []).fb ∧ (bench []).curX = 0 ∧ (bench []).curY = 0 ∧
    (List.replicate 8192 255#8).length = 8192 := ⟨by decide, by decide, rfl, rfl, List.length_replicate⟩

/-- One flush, and none. -/
theorem witness_WriteFlushesOncePerFrame :
    (lastPixel [okay]).busy = false ∧
    (∀ k < ((lastPixel [okay]).position + [255#8, 255#8].length) / 8192, (lastPixel [okay]).failsAt k = false) ∧
    (∀ k < ((bench []).position + [255#8].length) / 8192, (bench []).failsAt k = false) := by decide

/-- The first flush fails; and the second one. -/
theorem witness_FailedFlushEndsTheWrite :
    ((lastPixel [.error]).busy = false ∧ (∀ k < 0, (lastPixel [.error]).failsAt k = false) ∧
      (lastPixel [.error]).failsAt 0 = true ∧ (0 + 1) * 8192 ≤ (lastPixel [.error]).position + [255#8].length) ∧
    ((bench [okay, .error]).busy = false ∧ (∀ k < 1, (bench [okay, .error]).failsAt k = false) ∧
      (bench [okay, .error]).failsAt 1 = true ∧
      (1 + 1) * 8192 ≤ (bench [okay, .error]).position + (List.replicate 16385 255#8).length) := by
  simp only [List.length_replicate]; decide

theorem witness_WritesCompose :
    (lastPixel [okay]).busy = false ∧
    ∀ k < ((lastPixel [okay]).position + [255#8].length + [0#8].length) / 8192,
      (lastPixel [okay]).failsAt k = false := by decide

theorem witness_DisplayCommandsGiveTheirBytes :
    (bench []).busy = false ∧ isHostOperation (.pageaddr 0#8 7#8) = false := by decide

theorem witness_MeasureConvertsTheReply :
    (bench [okay, okay]).busy = false ∧ (bench [okay, okay]).failsAt 0 = false ∧
    (bench [okay, okay]).answerAt 1 = .ok ⟨0#8, 0#8, 0#8, 0#8, 0#8, 0#8⟩ := by decide

theorem witness_MeasureStopsAtTheFirstError :
    (bench []).busy = false ∧ (bench [.error]).failsAt 0 = true ∧
    (bench [okay, .error]).failsAt 0 = false ∧ (bench [okay, .error]).failsAt 1 = true := by decide

theorem witness_ChecksumBytesAreIgnored :
    (bench [okay, okay]).busy = false ∧
    (bench [okay, okay]).oracle = [.ok ⟨0#8, 0#8, 0#8, 0#8, 0#8, 0#8⟩, .ok ⟨0#8, 0#8, 0#8, 0#8, 0#8, 0#8⟩] ∧
    (∃ t, exec .measure (bench [okay, okay]) = .next t) ∧
    (∃ u, exec .measure { bench [okay, okay] with
        oracle := [okay, .ok ⟨0#8, 0#8, 1#8, 0#8, 0#8, 255#8⟩] } = .next u) :=
  ⟨by decide, rfl, ⟨_, rfl⟩, ⟨_, rfl⟩⟩

theorem witness_SetgiStoresBothOrNeither :
    (bench []).busy = false ∧ (5 : Nat) ≤ 5 ∧ (bench [.error]).failsAt 0 = true ∧
    (bench [okay]).failsAt 0 = false := by decide

/-- A channel 0 that is zero, and one that is not. -/
theorem witness_LuxComputesFromTheChannels :
    (night [okay, okay]).busy = false ∧ (night [okay, okay]).gain = some .high ∧
    (night [okay, okay]).itime = some 0 ∧ (night [okay, okay]).failsAt 0 = false ∧
    (night [okay, okay]).answerAt 1 = .ok ⟨0#8, 0#8, 0#8, 0#8, 0#8, 0#8⟩ ∧
    (night [okay, channelsA]).answerAt 1 = .ok ⟨0xE8#8, 0x03#8, 0xF4#8, 0x01#8, 0#8, 0#8⟩ ∧
    (1000 : Nat) = (0xE8#8).toNat + 256 * (0x03#8).toNat ∧ (500 : Nat) = (0xF4#8).toNat + 256 * (0x01#8).toNat ∧
    (428 : Nat) = (match Gain.high with
      | .low => 1
      | .medium => 25
      | .high => 428
      | .max => 9876) := by
  decide

theorem witness_LuxErrorsAndTheDisableStep :
    ((night []).busy = false ∧ (night []).gain = some .high ∧ (night []).itime = some 0) ∧
    (night [.error]).failsAt 0 = true ∧
    ((night [okay, .error]).failsAt 0 = false ∧ (night [okay, .error]).failsAt 1 = true) ∧
    ((night [okay, okay, .error]).failsAt 0 = false ∧ (night [okay, okay, .error]).failsAt 2 = true ∧
      (night [okay, okay, .error]).answerAt 1 = .ok ⟨0#8, 0#8, 0#8, 0#8, 0#8, 0#8⟩) := by decide

theorem witness_LuxWithoutGainIsConfigUnset : (bench []).busy = false ∧ (bench []).gain = none := by decide

/-- A channel 0 that is zero and one that is not, and the largest quotient. -/
theorem witness_LuxFormulaIsNonnegative : (0 : Nat) = 0 ∧ (1000 : Nat) ≠ 0 ∧ (0 : Nat) ≤ 65535 ∧ (65535 : Nat) ≤ 65535 := by decide

theorem witness_ConfigLoadsTheWindow :
    (bench []).busy = false ∧ (0 : Int) ≤ 0 ∧ (0 : Int) < 86400 ∧ (0 : Int) ≤ 86399 ∧ (86399 : Int) < 86400 := by
  decide

theorem witness_EvaluateIsTheWindowFunction :
    ((night []).busy = false ∧ (night []).fromTod = some 73800 ∧ (night []).toTod = some 27000) ∧
    ((bench []).busy = false ∧ (bench []).fromTod = none) := by decide

/-- TO before FROM, FROM before TO, and both equal; a later time before the boundary, and the last such. -/
theorem witness_WindowHoldsUntilItsBoundary :
    (isTimeOfDay 73800 = true ∧ isTimeOfDay 27000 = true ∧ (27000 : Int) < 73800) ∧
    (isTimeOfDay 0 = true ∧ isTimeOfDay 86399 = true ∧ (0 : Int) ≤ 86399) ∧
    (isTimeOfDay 3600 = true ∧ (3600 : Int) ≤ 3600) ∧
    ((75600 : Int) ≤ 113399 ∧ (113399 : Int) < (windowAt 73800 27000 75600).2) := by decide

theorem witness_DimtickUnconfiguredIsConfigUnset :
    ((bench []).busy = false ∧ (bench []).fromTod = none) ∧
    ({ night [] with gain := none, itime := none } : State).gain = none := by decide

theorem night_configured (l : List BusAnswer) : (night l).Configured 73800 27000 5 .high 0 :=
  ⟨rfl, rfl, rfl, rfl, rfl⟩

theorem active_configured (l : List BusAnswer) (on : Bool) : (active l on).Configured 73800 27000 5 .high 0 :=
  ⟨rfl, rfl, rfl, rfl, rfl⟩

theorem witness_DimtickConfiguredIsAlwaysOk :
    (night []).busy = false ∧ (night []).Configured 73800 27000 5 .high 0 := ⟨rfl, night_configured _⟩

/-- Held inactive one second before the boundary; and recomputed, from due and from the boundary itself. -/
theorem witness_DimtickInactiveIsQuiet :
    ((night []).busy = false ∧ (night []).Configured 73800 27000 5 .high 0 ∧ (night []).luxActive = false) ∧
    (({ night [] with nextEval := .time 73800 } : State).nextEval = .time 73800 ∧ (73799 : Int) < 73800) ∧
    ((night []).Due 28800 ∧ windowAt 73800 27000 28800 = (false, 73800)) ∧
    (({ night [] with nextEval := .time 27000 } : State).Due 27000 ∧ windowAt 73800 27000 27000 = (false, 73800)) :=
  ⟨⟨rfl, night_configured _, rfl⟩, ⟨rfl, by decide⟩, ⟨.inl rfl, by decide⟩, ⟨.inr ⟨27000, rfl, by decide⟩, by decide⟩⟩

theorem witness_DimtickLeavingActiveForcesOn :
    (active [okay, .error, okay] true).busy = false ∧
    (active [okay, .error, okay] true).Configured 73800 27000 5 .high 0 ∧
    (active [okay, .error, okay] true).luxActive = true ∧ (active [okay, .error, okay] true).Due 113400 ∧
    windowAt 73800 27000 113400 = (false, 160200) ∧
    Status.busTransactionError .xfer = commandStatus ((active [okay, .error, okay] true).failsAt 0)
      ((active [okay, .error, okay] true).failsAt 1) ((active [okay, .error, okay] true).failsAt 2) :=
  ⟨rfl, active_configured _ _, rfl, .inr ⟨113400, rfl, by decide⟩, by decide, by decide⟩

/-- Active because held so, and because just recomputed. -/
theorem witness_DimtickLuxFailureSkipsTheDecision :
    ((active [.error] true).busy = false ∧ (active [.error] true).Configured 73800 27000 5 .high 0 ∧
      (active [.error] true).ActiveUntil 73800 27000 113399 113400 ∧ (active [.error] true).failsAt 0 = true) ∧
    ((night [okay, .error]).busy = false ∧ (night [okay, .error]).Configured 73800 27000 5 .high 0 ∧
      (night [okay, .error]).ActiveUntil 73800 27000 75600 113400 ∧
      (night [okay, .error]).failsAt 0 = false ∧ (night [okay, .error]).failsAt 1 = true) :=
  ⟨⟨rfl, active_configured _ _, .inl ⟨rfl, by decide, rfl⟩, rfl⟩,
    ⟨rfl, night_configured _, .inr ⟨.inl rfl, by decide⟩, rfl, rfl⟩⟩

/-- Below the threshold with the display on; and the hypotheses on the reply for the channels of vector A. -/
theorem witness_DimtickGatesByTheThreshold :
    ∃ lux : Rat, lux = roundResult (night [okay, channelsA]).cfg.numRound
        (luxFormula .high 0 ((0xE8#8).toNat + 256 * (0x03#8).toNat) ((0xF4#8).toNat + 256 * (0x01#8).toNat)) ∧
      lux < 5 ∧ (night [okay, channelsA]).displayOn = true ∧ (night [okay, channelsA]).busy = false ∧
      (night [okay, channelsA]).Configured 73800 27000 5 .high 0 ∧
      (night [okay, channelsA]).ActiveUntil 73800 27000 75600 113400 ∧
      (night [okay, channelsA]).failsAt 0 = false ∧
      (night [okay, channelsA]).answerAt 1 = .ok ⟨0xE8#8, 0x03#8, 0xF4#8, 0x01#8, 0#8, 0#8⟩ :=
  ⟨_, rfl, by decide +kernel, rfl, rfl, night_configured _, .inr ⟨.inl rfl, by decide⟩, rfl, rfl⟩

/-- The other branch: at the threshold exactly (vector M30), with the display off, still active one second before
the boundary. -/
theorem witness_DimtickGatesAtTheThreshold :
    ∃ lux : Rat, lux = roundResult (active [okay, channelsA] false).cfg.numRound
        (luxFormula .high 0 ((0xE8#8).toNat + 256 * (0x03#8).toNat) ((0xF4#8).toNat + 256 * (0x01#8).toNat)) ∧
      (255 / 107 : Rat) ≤ lux ∧ (active [okay, channelsA] false).displayOn = false ∧
      ({ active [okay, channelsA] false with luxMin := some (255 / 107) } : State).Configured
        73800 27000 (255 / 107) .high 0 ∧
      ({ active [okay, channelsA] false with luxMin := some (255 / 107) } : State).ActiveUntil
        73800 27000 113399 113400 ∧
      ({ active [okay, channelsA] false with luxMin := some (255 / 107) } : State).failsAt 0 = false ∧
      ({ active [okay, channelsA] false with luxMin := some (255 / 107) } : State).answerAt 1 =
        .ok ⟨0xE8#8, 0x03#8, 0xF4#8, 0x01#8, 0#8, 0#8⟩ :=
  ⟨_, rfl, by decide +kernel, rfl, ⟨rfl, rfl, rfl, rfl, rfl⟩, .inl ⟨rfl, by decide, rfl⟩, rfl, rfl⟩

end Sys2Proof.Tests
end

/-! SUPPORT and settlements for the family of spec/10_state.md: what an instruction writes (R23), what its step can do,
and from that the invariant, the frames and the line levels. -/

namespace Sys2Proof.Machine

/-! ### Every instruction is one operation -/

/-- What an instruction runs between the start and the end of its operation. -/
def bodyOf : Instr → State → Response × State
  | .init => plain initDisplay
  | .write data => writeBody data
  | .display => plain sendFrame
  | .on => plain powerOn
  | .off => plain powerOff
  | .measure => measureBody
  | .setgi gain itime => plain (setGainIntegration gain itime)
  | .lux => luxBody
  | .config fromTod toTod luxMin => configBody fromTod toTod luxMin
  | .evaluate now => evaluateBody now
  | .dimtick now => dimtickBody now
  | i => fun s => (⟨.ok, .bytes (commandBytes i), []⟩, s)

/-- The meaning of an instruction is one operation, legal iff its operands are inside their types (R36, R107). -/
theorem exec_eq_operation (i : Instr) (s : State) : exec i s = operation i.wellFormed (bodyOf i) s := by
  cases i <;> rfl

theorem exec_busy (i : Instr) (s : State) (h : s.busy = true) : exec i s = .refused .whileBusy := by
  rw [exec_eq_operation, operation_busy _ _ _ h]

theorem exec_wellFormed (i : Instr) (s : State) (hi : i.wellFormed = true) (hb : s.busy = false) :
    exec i s = .next ((bodyOf i s.begin).2.finish (bodyOf i s.begin).1) := by
  rw [exec_eq_operation, hi, operation_next _ _ hb]

/-! ### The step of a request -/

theorem fetch_bench (s : State) (bytes : List Byte) (h : s.bench = some bytes) :
    s.fetch = some (.command bytes, { s with bench := none }) := by
  simp [State.fetch, h]

theorem fetch_host (s : State) (r : HostRequest) (rest : List HostRequest) (h : s.bench = none)
    (hr : s.requests = r :: rest) :
    s.fetch = some (.op r.code r.operands, { s with requests := rest }) := by
  simp [State.fetch, h, hr]

/-- Fetching moves nothing but the bench and the host's list (log 4, log 6). -/
theorem fetch_some (s u : State) (r : Request) (h : s.fetch = some (r, u)) :
    ∃ bench requests, u = { s with bench := bench, requests := requests } := by
  unfold State.fetch at h
  split at h
  · cases h; exact ⟨_, _, rfl⟩
  · cases h; exact ⟨_, _, rfl⟩
  · cases h

theorem step_decoded (s u : State) (r : Request) (i : Instr) (hf : s.fetch = some (r, u))
    (hd : decode r = .ok i) : step s = exec i u := by
  simp [step, hf, hd]

/-- A step waits, runs an instruction, or rejects a request. -/
theorem step_cases (s t : State) (h : step s = .next t) :
    t = s ∨ ∃ r u, s.fetch = some (r, u) ∧
      ((∃ i, exec i u = .next t) ∨ u.busy = false ∧ t = u.refuse) := by
  unfold step at h
  split at h
  · cases h; exact .inl rfl
  · next r u hf =>
    refine .inr ⟨r, u, hf, ?_⟩
    split at h
    · next i _ => exact .inl ⟨i, h⟩
    · exact .inr (whenIdle_next _ _ _ h)

/-- A busy block refuses any request it fetches (R37). -/
theorem step_busy (s u : State) (r : Request) (hf : s.fetch = some (r, u)) (hb : u.busy = true) :
    step s = .refused .whileBusy := by
  simp only [step, hf]
  split
  · exact exec_busy _ _ hb
  · exact whenIdle_busy _ _ hb

/-! ### What an instruction writes besides the bus -/

/-- The writes of an instruction to memory and registers, as R23's table has them: `w` is `s` after those of `i`. -/
inductive Writes (s : State) : Instr → State → Prop
  | nothing (i : Instr) : Writes s i s
  | pixels (data : List Byte) (fb : Memory) (x : Fin 128) (y : Fin 64)
      (hfb : Memory.wf s.cfg s.fb → Memory.wf s.cfg fb) :
      Writes s (.write data) { s with fb := fb, curX := x, curY := y }
  | gain (g : Gain) (t : Nat) (hok : s.failsAt 0 = false) : Writes s (.setgi g t) (s.storeGain g t)
  | config (f t : Int) (q : Rat) : Writes s (.config f t q) (s.loadConfig f t q)
  | window (now : Int) (ne : NextEval) (active on : Bool)
      (hset : s.fromTod.isSome = true ∧ s.gain.isSome = true) :
      Writes s (.dimtick now) { s with nextEval := ne, luxActive := active, displayOn := on }

/-- `u` is `s` after the writes of `i` and some well-formed bus events. -/
def Effect (i : Instr) (s u : State) : Prop := ∃ w, Writes s i w ∧ OnlyBus w u

theorem inPhase_onlyBus (s : State) (p : Phase) : OnlyBus s (s.inPhase p) :=
  ⟨[], p, by simp [State.after], rfl⟩

theorem OnlyBus.refl (s : State) : OnlyBus s s := inPhase_onlyBus s s.phase

theorem Effect.refl (i : Instr) (s : State) : Effect i s s := ⟨s, .nothing i, .refl s⟩

theorem Effect.bus {i : Instr} {s u v : State} (h : Effect i s u) (hb : OnlyBus u v) : Effect i s v := by
  obtain ⟨w, hw, hu⟩ := h
  exact ⟨w, hw, hu.trans hb⟩

theorem effect_of_onlyBus (i : Instr) {s u : State} (h : OnlyBus s u) : Effect i s u := (Effect.refl i s).bus h

/-! ### The bus-only bodies -/

theorem initDisplay_onlyBus (s : State) : OnlyBus s (initDisplay s).2 := by
  have hr := hwReset_onlyBus s
  unfold initDisplay
  split
  · next heq => rwa [heq] at hr
  · next heq =>
    rw [heq] at hr
    exact hr.trans (writeCmd_onlyBus _ _)

theorem busWrite_onlyBus (p : Phase) (addr : Nat) (l : List Byte) (s : State) :
    OnlyBus s (busWrite p addr l s).2 := by
  rw [busWrite_eq]
  exact onlyBus_after _ _ _ _ rfl rfl

theorem busRead_onlyBus (p : Phase) (addr n : Nat) (s : State) : OnlyBus s (busRead p addr n s).2 := by
  rw [busRead_eq]
  exact onlyBus_after _ _ _ _ rfl rfl

theorem delay_onlyBus (p : Phase) (ms : Nat) (s : State) : OnlyBus s (delay p ms s) := by
  rw [delay_eq]
  exact onlyBus_after _ _ _ _ rfl rfl

theorem measureBody_onlyBus (s : State) : OnlyBus s (measureBody s).2 := by
  have hreq := busWrite_onlyBus .request s.cfg.thAddr [thCmdMeasure] s
  unfold measureBody
  split
  · next heq => rwa [heq] at hreq
  · next s1 heq =>
    rw [heq] at hreq
    have hread := (hreq.trans (delay_onlyBus .convert 10 s1)).trans (busRead_onlyBus .read s1.cfg.thAddr 6 _)
    split
    · next heq' => rwa [heq'] at hread
    · next heq' =>
      rw [heq'] at hread
      exact hread.trans (inPhase_onlyBus _ _)

theorem luxBody_onlyBus (s : State) : OnlyBus s (luxBody s).2 := by
  have hl := readLux_onlyBus s
  unfold luxBody
  split <;> next heq => rwa [heq] at hl

theorem evaluateBody_state (now : Int) (s : State) : (evaluateBody now s).2 = s := by
  unfold evaluateBody
  split <;> rfl

/-! ### WRITE's body -/

/-- One round of WRITE's loop: a pixel, perhaps a flush, and then the rest or the end (R154, R157, R158). -/
theorem writePixels_cons (v : Byte) (vs : List Byte) (n : Nat) (s : State) :
    ∃ u, OnlyBus (s.putPixel v) u ∧ ((writePixels (v :: vs) n s).2.2 = u ∨
      (writePixels (v :: vs) n s).2.2 = (writePixels vs (n + 1) u).2.2) := by
  have hflush : OnlyBus (s.putPixel v)
      (((s.putPixel v).after (frameEvents (s.putPixel v).frame) 1).inPhase .csOff) :=
    onlyBus_after _ _ _ _ rfl rfl
  cases hend : s.atFrameEnd with
  | false => exact ⟨_, .refl _, .inr (by rw [writePixels_inside _ _ _ _ hend])⟩
  | true =>
    refine ⟨_, hflush, ?_⟩
    cases hf : s.failsAt 0 with
    | false => exact .inr (by rw [writePixels_flush _ _ _ _ hend hf])
    | true => exact .inl (by rw [writePixels_flush_fails _ _ _ _ hend hf])

/-- A pixel, as a change of the framebuffer and the cursor alone. -/
theorem putPixel_eq (s : State) (v : Byte) :
    s.putPixel v = { s with
      fb := (s.putPixel v).fb, curX := (s.putPixel v).curX, curY := (s.putPixel v).curY } := by
  unfold State.putPixel State.advance
  split
  · rfl
  · split <;> rfl

theorem putPixel_wf (s : State) (v : Byte) (h : Memory.wf s.cfg s.fb) : Memory.wf s.cfg (s.putPixel v).fb := by
  simpa [State.putPixel] using storePixel_wf s v h

theorem Effect.putPixel {data : List Byte} {s u : State} (h : Effect (.write data) s u) (v : Byte) :
    Effect (.write data) s (u.putPixel v) := by
  obtain ⟨w, hw, evs, p, rfl, hc⟩ := h
  rw [putPixel_eq]
  have hkeep := putPixel_wf ((w.after evs (evs.countP isAnswered)).inPhase p) v
  cases hw with
  | nothing => exact ⟨_, .pixels data _ _ _ hkeep, evs, p, rfl, hc⟩
  | pixels _ _ _ _ hfb => exact ⟨_, .pixels data _ _ _ (hkeep ∘ hfb), evs, p, rfl, hc⟩

theorem writePixels_effect (data vs : List Byte) (n : Nat) (s u : State) (h : Effect (.write data) s u) :
    Effect (.write data) s (writePixels vs n u).2.2 := by
  induction vs generalizing n u with
  | nil => exact h
  | cons v vs ih =>
    obtain ⟨u', hbus, hend | hrest⟩ := writePixels_cons v vs n u
    · rw [hend]; exact (h.putPixel v).bus hbus
    · rw [hrest]; exact ih _ _ ((h.putPixel v).bus hbus)

/-! ### SETGI's body -/

theorem setGainIntegration_fails (g : Gain) (t : Nat) (s : State) (h : s.failsAt 0 = true) :
    OnlyBus s (setGainIntegration g t s).2 := by
  simp only [setGainIntegration, busWrite_eq, h]
  exact onlyBus_after _ _ _ _ rfl rfl

theorem setGainIntegration_stores (g : Gain) (t : Nat) (s : State) (h : s.failsAt 0 = false) :
    OnlyBus (s.storeGain g t) (setGainIntegration g t s).2 := by
  simp only [setGainIntegration, busWrite_eq, h]
  exact onlyBus_after (s.storeGain g t) _ _ _ rfl rfl

theorem setGainIntegration_effect (g : Gain) (t : Nat) (s : State) :
    Effect (.setgi g t) s (setGainIntegration g t s).2 := by
  cases h : s.failsAt 0 with
  | true => exact effect_of_onlyBus _ (setGainIntegration_fails g t s h)
  | false => exact ⟨_, .gain g t h, setGainIntegration_stores g t s h⟩

/-! ### DIMTICK's body -/

section Tick

variable {now : Int} {s u : State} (hset : s.fromTod.isSome = true ∧ s.gain.isSome = true)

include hset

theorem Effect.setWindow (h : Effect (.dimtick now) s u) (active : Bool) (ne : Int) :
    Effect (.dimtick now) s (u.setWindow active ne) := by
  obtain ⟨w, hw, evs, p, rfl, hc⟩ := h
  cases hw <;> exact ⟨_, .window now (.time ne) active _ hset, evs, p, rfl, hc⟩

theorem Effect.setDisplayOn (h : Effect (.dimtick now) s u) (on : Bool) :
    Effect (.dimtick now) s (u.setDisplayOn on) := by
  obtain ⟨w, hw, evs, p, rfl, hc⟩ := h
  cases hw <;> exact ⟨_, .window now _ _ on hset, evs, p, rfl, hc⟩

theorem powerCommand_effect (h : Effect (.dimtick now) s u) (wanted : Bool) :
    Effect (.dimtick now) s (powerCommand wanted u).2 := by
  have hbus : OnlyBus u (if wanted then powerOn u else powerOff u).2 := by
    cases wanted <;> exact writeCmd_onlyBus _ _
  exact (h.bus hbus).setDisplayOn hset _

theorem luxGate_effect (h : Effect (.dimtick now) s u) (luxMin : Rat) :
    Effect (.dimtick now) s (luxGate luxMin u).2 := by
  have hread := h.bus (readLux_onlyBus u)
  unfold luxGate
  split
  · next heq => rwa [heq] at hread
  · next heq =>
    rw [heq] at hread
    split <;> split
    · exact powerCommand_effect hset hread false
    · exact hread
    · exact hread
    · exact powerCommand_effect hset hread true

theorem recomputeWindow_effect (h : Effect (.dimtick now) s u) (f t : Int) :
    Effect (.dimtick now) s (recomputeWindow f t now u).2.2 := by
  unfold recomputeWindow
  dsimp only
  split
  · exact powerCommand_effect hset (h.setWindow hset _ _) true
  · exact h.setWindow hset _ _

theorem windowStep_effect (h : Effect (.dimtick now) s u) (f t : Int) :
    Effect (.dimtick now) s (windowStep f t now u).2.2 := by
  unfold windowStep
  split
  · exact recomputeWindow_effect hset h f t
  · split
    · exact recomputeWindow_effect hset h f t
    · exact h

theorem tick_effect (h : Effect (.dimtick now) s u) (f t : Int) (luxMin : Rat) :
    Effect (.dimtick now) s (tick f t luxMin now u).2 := by
  have hstep := windowStep_effect hset h f t
  unfold tick
  dsimp only
  split
  · exact luxGate_effect hset hstep luxMin
  · exact hstep

end Tick

theorem dimtickBody_effect (now : Int) (s : State) : Effect (.dimtick now) s (dimtickBody now s).2 := by
  unfold dimtickBody
  split
  · next hf _ _ hg _ => exact tick_effect (by simp [hf, hg]) (.refl _ s) _ _ _
  · exact .refl _ s

/-! ### What a next state can be -/

/-- The one lemma on all bodies: an instruction does the writes R23 lists for it, and well-formed bus events. -/
theorem bodyOf_effect (i : Instr) (s : State) : Effect i s (bodyOf i s).2 := by
  cases i with
  | init => exact effect_of_onlyBus _ (initDisplay_onlyBus s)
  | write data => exact writePixels_effect data data 0 s s (.refl _ s)
  | display => exact effect_of_onlyBus _ (sendFrame_onlyBus s)
  | on => exact effect_of_onlyBus _ (writeCmd_onlyBus _ s)
  | off => exact effect_of_onlyBus _ (writeCmd_onlyBus _ s)
  | measure => exact effect_of_onlyBus _ (measureBody_onlyBus s)
  | setgi gain itime => exact setGainIntegration_effect gain itime s
  | lux => exact effect_of_onlyBus _ (luxBody_onlyBus s)
  | config f t q => exact ⟨_, .config f t q, .refl _⟩
  | evaluate now => exact (evaluateBody_state now s).symm ▸ .refl _ s
  | dimtick now => exact dimtickBody_effect now s
  | _ => exact .refl _ s

/-- BUSY is no part of what an instruction writes. -/
theorem Writes.of_begin {i : Instr} {s w : State} (h : Writes s.begin i w) :
    ∃ w', Writes s i w' ∧ w = w'.begin := by
  cases h with
  | nothing => exact ⟨_, .nothing i, rfl⟩
  | pixels data fb x y hfb => exact ⟨_, .pixels data fb x y hfb, rfl⟩
  | gain g t hok => exact ⟨_, .gain g t hok, rfl⟩
  | config f t q => exact ⟨_, .config f t q, rfl⟩
  | window now ne active on hset => exact ⟨_, .window now ne active on hset, rfl⟩

/-- A next state is a refusal's, or it is `s` after the instruction's writes and well-formed bus events, at rest with a
response. -/
theorem exec_cases (i : Instr) (s t : State) (h : exec i s = .next t) :
    t = s.refuse ∨ i.wellFormed = true ∧ ∃ w evs r, Writes s i w ∧
      evs.foldlM chipSelectStep .released = some .released ∧ t = w.respond evs (evs.countP isAnswered) r := by
  rw [exec_eq_operation] at h
  obtain ⟨-, ⟨-, rfl⟩ | ⟨hi, rfl⟩⟩ := operation_cases _ _ _ _ h
  · exact .inl rfl
  · obtain ⟨w, hw, evs, p, hu, hc⟩ := bodyOf_effect i s.begin
    obtain ⟨w', hw', rfl⟩ := hw.of_begin
    exact .inr ⟨hi, w', evs, _, hw', hc, by rw [hu, finish_after_begin]⟩

/-- Only an idle block has a next state (R37). -/
theorem exec_idle (i : Instr) (s t : State) (h : exec i s = .next t) : s.busy = false := by
  rw [exec_eq_operation] at h
  exact (operation_cases _ _ _ _ h).1

/-! ### The invariant -/

theorem chipSelectAfter_append (l evs : List Event) (h : chipSelectAfter l = some .released) :
    chipSelectAfter (l ++ evs) = evs.foldlM chipSelectStep .released := by
  unfold chipSelectAfter at h ⊢
  simp [List.foldlM_append, h]

theorem Writes.trace_eq {i : Instr} {s w : State} (h : Writes s i w) : w.trace = s.trace := by
  cases h <;> rfl

/-- No instruction leaves chip-select asserted (R76, R313). -/
theorem exec_chipSelect (i : Instr) (s t : State) (hs : chipSelectAfter s.trace = some .released)
    (h : exec i s = .next t) : chipSelectAfter t.trace = some .released := by
  obtain rfl | ⟨-, w, evs, r, hw, hc, rfl⟩ := exec_cases i s t h
  · exact hs
  · exact (chipSelectAfter_append _ _ (hw.trace_eq ▸ hs)).trans hc

/-- The instruction's writes keep the invariant, its operands being inside their types. -/
theorem Writes.inv {i : Instr} {s w : State} (h : Writes s i w) (hi : i.wellFormed = true) (hs : s.Inv) : w.Inv := by
  obtain ⟨hmem, hrest, hgain, hconf, hcs, hans, hdim⟩ := hs
  cases h with
  | nothing => exact ⟨hmem, hrest, hgain, hconf, hcs, hans, hdim⟩
  | pixels data fb x y hfb => exact ⟨hfb hmem, hrest, hgain, hconf, hcs, hans, hdim⟩
  | gain g t hok => exact ⟨hmem, hrest, ⟨rfl, hi⟩, hconf, hcs, hans, fun hm => ⟨(hdim hm).1, rfl⟩⟩
  | config f t q =>
    have htods : isTimeOfDay f = true ∧ isTimeOfDay t = true := by simpa [Instr.wellFormed] using hi
    refine ⟨hmem, hrest, hgain, ⟨rfl, rfl, htods⟩, hcs, hans, fun hm => ⟨rfl, (hdim ?_).2⟩⟩
    exact .inr (hm.resolve_left fun hne => hne rfl)
  | window now ne active on hset => exact ⟨hmem, hrest, hgain, hconf, hcs, hans, fun _ => hset⟩

/-- Well-formed bus events and the end of an operation keep the invariant. -/
theorem respond_inv (s : State) (evs : List Event) (r : Response) (hs : s.Inv)
    (hc : evs.foldlM chipSelectStep .released = some .released) :
    (s.respond evs (evs.countP isAnswered) r).Inv := by
  obtain ⟨hmem, -, hgain, hconf, hcs, hans, hdim⟩ := hs
  exact ⟨hmem, ⟨rfl, rfl⟩, hgain, hconf, (chipSelectAfter_append _ _ hcs).trans hc,
    answered_after s evs _ hans rfl, hdim⟩

theorem exec_inv (i : Instr) (s t : State) (hs : s.Inv) (h : exec i s = .next t) : t.Inv := by
  obtain rfl | ⟨hi, w, evs, r, hw, hc, rfl⟩ := exec_cases i s t h
  · exact hs
  · exact respond_inv w evs r (hw.inv hi hs) hc

theorem fetch_inv (s u : State) (r : Request) (hs : s.Inv) (h : s.fetch = some (r, u)) : u.Inv := by
  obtain ⟨bench, requests, rfl⟩ := fetch_some s u r h
  exact hs

/-- Settles O17, from what a next state can be: the writes keep the invariant, and so do the bus events. -/
theorem stepKeepsTheInvariant : Obligations.StepKeepsTheInvariant := by
  intro s t hs h
  obtain rfl | ⟨r, u, hf, hu⟩ := step_cases s t h
  · exact hs
  · have huinv := fetch_inv s u r hs hf
    obtain ⟨i, hi⟩ | ⟨-, rfl⟩ := hu
    · exact exec_inv i u t huinv hi
    · exact huinv

/-! ### Frames -/

/-- Settles O20: no constructor of the instruction's writes moves a register of another instruction. -/
theorem registersAreWrittenOnlyByTheirOperations : Obligations.RegistersAreWrittenOnlyByTheirOperations := by
  intro i s t h
  obtain rfl | ⟨-, w, evs, r, hw, -, rfl⟩ := exec_cases i s t h
  · simp
  · cases hw <;> simp [State.respond]

/-- Settles O21: of the writes only WRITE's hold a framebuffer. -/
theorem onlyWriteChangesTheFramebuffer : Obligations.OnlyWriteChangesTheFramebuffer := by
  intro i s t hi h a
  obtain rfl | ⟨-, w, evs, r, hw, -, rfl⟩ := exec_cases i s t h
  · rfl
  · cases hw with
    | pixels data => exact absurd rfl (hi data)
    | _ => rfl

/-- A SETGI whose write succeeded leaves its operands (R222). -/
theorem setgi_succeeds (s t : State) (g : Gain) (k : Nat) (hk : k ≤ 5) (hok : s.failsAt 0 = false)
    (h : exec (.setgi g k) s = .next t) : t.gain = some g ∧ t.itime = some k := by
  rw [exec_eq_operation] at h
  obtain ⟨-, ⟨hill, -⟩ | ⟨-, rfl⟩⟩ := operation_cases _ _ _ _ h
  · simp [Instr.wellFormed, hk] at hill
  · obtain ⟨evs, p, hu, -⟩ := setGainIntegration_stores g k s.begin hok
    simp [bodyOf, plain, hu]

/-- A SETGI that was illegal or whose write failed leaves GAIN and ITIME (R107, R222). -/
theorem setgi_fails (s t : State) (g : Gain) (k : Nat) (hbad : 5 < k ∨ s.failsAt 0 = true)
    (h : exec (.setgi g k) s = .next t) : t.gain = s.gain ∧ t.itime = s.itime := by
  obtain rfl | ⟨hi, w, evs, r, hw, -, rfl⟩ := exec_cases _ s t h
  · exact ⟨rfl, rfl⟩
  · cases hw with
    | nothing => exact ⟨rfl, rfl⟩
    | gain _ _ hok =>
      have hk : k ≤ 5 := of_decide_eq_true hi
      simp [hok] at hbad
      omega

/-- Settles O24: the pair moves by SETGI's write alone, and SETGI's two outcomes are the lemmas above. -/
theorem gainFollowsTheLastSuccessfulWrite : Obligations.GainFollowsTheLastSuccessfulWrite := by
  refine ⟨fun i s t h => ?_, fun s t g k h => ⟨fun hk hok => setgi_succeeds s t g k hk hok h,
    fun hbad => setgi_fails s t g k hbad h⟩⟩
  obtain rfl | ⟨-, w, evs, r, hw, -, rfl⟩ := exec_cases i s t h
  · exact .inl ⟨rfl, rfl⟩
  · cases hw with
    | gain g k hok => exact .inr ⟨g, k, rfl, hok, rfl, rfl⟩
    | _ => exact .inl ⟨rfl, rfl⟩

/-! ### WRITE's frame -/

/-- The byte that holds the pixel at a linear position, counted on past the end of a frame (R62, R156). -/
def byteOfPosition (n : Nat) : Nat := n % 8192 / 128 / 8 * 128 + n % 8192 % 128

/-- The byte under the cursor. -/
theorem pixByte_eq_byteOfPosition (s : State) : (pixByte s.curX s.curY).val = byteOfPosition s.position := by
  have hx := s.curX.isLt
  have hy := s.curY.isLt
  unfold pixByte byteOfPosition State.position
  dsimp only
  omega

theorem byteOfPosition_putPixel (s : State) (v : Byte) (k : Nat) :
    byteOfPosition ((s.putPixel v).position + k) = byteOfPosition (s.position + (k + 1)) := by
  have hpos : (s.putPixel v).position = (s.position + 1) % 8192 := putPixel_position s v
  have hmod : ((s.putPixel v).position + k) % 8192 = (s.position + (k + 1)) % 8192 := by omega
  rw [byteOfPosition, byteOfPosition, hmod]

theorem putPixel_fbByte_other (s : State) (v : Byte) (a : Fin 1024) (h : a.val ≠ byteOfPosition s.position) :
    (s.putPixel v).fbByte a = s.fbByte a := by
  have ha : a ≠ pixByte s.curX s.curY := fun e => h (e ▸ pixByte_eq_byteOfPosition s)
  rw [← storePixel_fbByte_other s v a ha]
  simp [State.putPixel, State.fbByte]

theorem OnlyBus.fbByte {s u : State} (h : OnlyBus s u) (a : Fin 1024) : u.fbByte a = s.fbByte a := by
  obtain ⟨evs, p, rfl, -⟩ := h
  rfl

theorem OnlyBus.position {s u : State} (h : OnlyBus s u) : u.position = s.position := by
  obtain ⟨evs, p, rfl, -⟩ := h
  rfl

/-- WRITE's loop leaves every byte that holds none of its pixels (R155). -/
theorem writePixels_fbByte_other (data : List Byte) (n : Nat) (s : State) (a : Fin 1024)
    (h : ∀ k < data.length, a.val ≠ byteOfPosition (s.position + k)) :
    (writePixels data n s).2.2.fbByte a = s.fbByte a := by
  induction data generalizing n s with
  | nil => rfl
  | cons v vs ih =>
    obtain ⟨u, hbus, hend⟩ := writePixels_cons v vs n s
    have hu : u.fbByte a = s.fbByte a :=
      (hbus.fbByte a).trans (putPixel_fbByte_other s v a (h 0 (by simp)))
    have hvs : ∀ k < vs.length, a.val ≠ byteOfPosition (u.position + k) := fun k hk => by
      rw [hbus.position, byteOfPosition_putPixel]
      exact h (k + 1) (by simpa using hk)
    obtain hend | hend := hend
    · rw [hend, hu]
    · rw [hend, ih _ _ hvs, hu]

/-- Settles O32: the bytes by induction over the data, the registers by the frame of every instruction (O20). -/
theorem writeLeavesEverythingElse : Obligations.WriteLeavesEverythingElse := by
  intro s data hb
  have hnext := exec_wellFormed (.write data) s rfl hb
  refine ⟨_, hnext, fun a ha => writePixels_fbByte_other data 0 s.begin a ha, ?_⟩
  obtain ⟨hcfg, -, -, -, hgain, hconf, hne, hflags⟩ := registersAreWrittenOnlyByTheirOperations _ _ _ hnext
  obtain ⟨hg, hi⟩ := hgain (by simp)
  obtain ⟨hf, ht, hq⟩ := hconf (by simp)
  obtain ⟨ha, ho⟩ := hflags (by simp)
  exact ⟨hcfg, hg, hi, hf, ht, hq, hne (by simp) (by simp), ha, ho⟩

/-! ### The lines after INIT -/

/-- A GPIO call drives its pin iff it succeeds (R313; log 17). -/
theorem drive_gpio (s : State) (k pin q : Nat) (outEn l : Bool) (level : Option Bool) :
    drive pin (.gpio q outEn l) (s.answerAt k) level =
      if s.failsAt k = false ∧ q = pin then some l else level := by
  unfold State.failsAt
  cases s.answerAt k <;> simp [drive, answerFails]

/-- A transfer drives no pin. -/
theorem drive_spi (pin : Nat) (l : List Byte) (a : BusAnswer) (level : Option Bool) :
    drive pin (.spi l) a level = level := rfl

/-- The lines after a whole reset pulse: reset is high, every other line as before (R40, R151). -/
theorem pinLevel_after_hwReset (s : State) (pin : Nat) (hs : s.Answered) (h2 : s.failsAt 2 = false) :
    (s.after (hwResetEvents s.cfg) 3).pinLevel pin =
      if s.cfg.pinRst = pin then some true else s.pinLevel pin := by
  rw [pinLevel_after _ _ _ _ hs]
  by_cases hpin : s.cfg.pinRst = pin <;>
    simp [hwResetEvents, levelAfter, isAnswered, List.range_succ, drive_gpio, hpin, h2]

/-- The lines after a WRITECMD: D/C by its first and its last call, every other line as before (R40, R150; log 17). -/
theorem pinLevel_after_writeCmd (s : State) (l : List Byte) (pin : Nat) (hs : s.Answered) :
    (s.after (commandTrace s.cfg l (s.failsAt 0)) (commandCalls (s.failsAt 0))).pinLevel pin =
      if s.cfg.pinDc = pin then
        if s.failsAt 0 then s.pinLevel pin
        else if s.failsAt 2 then some s.cfg.dcCommandLevel
        else some (!s.cfg.dcCommandLevel)
      else s.pinLevel pin := by
  rw [pinLevel_after _ _ _ _ hs]
  cases h0 : s.failsAt 0 with
  | true => simp [commandTrace, commandCalls, levelAfter, isAnswered, drive_gpio, h0]
  | false =>
    by_cases hpin : s.cfg.pinDc = pin <;> cases h2 : s.failsAt 2 <;>
      simp [commandTrace, commandCalls, commandEvents, levelAfter, isAnswered, List.range_succ, drive_gpio,
        drive_spi, hpin, h0, h2]

/-- INIT once its reset pulse succeeded (R152). -/
theorem exec_init_pulsed (s : State) (hb : s.busy = false) (h0 : s.failsAt 0 = false) (h1 : s.failsAt 1 = false)
    (h2 : s.failsAt 2 = false) :
    exec .init s = .next (s.respond
      (hwResetEvents s.cfg ++ commandTrace s.cfg (initBurst s.cfg) (s.failsAt 3)) (3 + commandCalls (s.failsAt 3))
      (bare (commandStatus (s.failsAt 3) (s.failsAt 4) (s.failsAt 5)))) := by
  rw [exec_wellFormed .init s rfl hb, bodyOf, plain, initDisplay_pulsed s.begin h0 h1 h2, responseOf_ranOf]
  rfl

/-- A line after an INIT whose reset pulse succeeded: first the pulse, then the WRITECMD. -/
theorem pinLevel_after_init (s : State) (l : List Byte) (r : Response) (pin : Nat) (hs : s.Answered)
    (h2 : s.failsAt 2 = false) :
    (s.respond (hwResetEvents s.cfg ++ commandTrace s.cfg l (s.failsAt 3)) (3 + commandCalls (s.failsAt 3))
        r).pinLevel pin =
      if s.cfg.pinDc = pin then
        if s.failsAt 3 then if s.cfg.pinRst = pin then some true else s.pinLevel pin
        else if s.failsAt 5 then some s.cfg.dcCommandLevel
        else some (!s.cfg.dcCommandLevel)
      else if s.cfg.pinRst = pin then some true else s.pinLevel pin := by
  have hpulse := pinLevel_after_hwReset s pin hs h2
  have hcmd := pinLevel_after_writeCmd (s.after (hwResetEvents s.cfg) 3) l pin
    (answered_after s _ 3 hs rfl)
  simp only [failsAt_after, State.after_cfg, State.after_after, hpulse] at hcmd
  exact hcmd

/-- Settles O56, by the levels after the pulse and after the WRITECMD. -/
theorem initPastItsPulseLeavesTheLines : Obligations.InitPastItsPulseLeavesTheLines := by
  intro s t hb hpins hs h0 h1 h2 h
  rw [exec_init_pulsed s hb h0 h1 h2] at h
  cases h
  have hne : s.cfg.pinDc ≠ s.cfg.pinRst := by simpa [Params.wellFormed] using hpins
  constructor
  · simp [pinLevel_after_init s _ _ _ hs h2, hne]
  · simp [pinLevel_after_init s _ _ _ hs h2, hne.symm]

theorem hwResetStatus_eq_ok_iff (f0 f1 f2 : Bool) :
    hwResetStatus f0 f1 f2 = .ok ↔ f0 = false ∧ f1 = false ∧ f2 = false := by
  revert f0 f1 f2; decide

theorem commandStatus_eq_ok_iff (f0 f1 f2 : Bool) :
    commandStatus f0 f1 f2 = .ok ↔ f0 = false ∧ f1 = false ∧ f2 = false := by
  revert f0 f1 f2; decide

/-- INIT's outcome when its reset pulse failed is the pulse's (R152). -/
theorem initDisplay_pulse_fails (s : State) (h : hwResetStatus (s.failsAt 0) (s.failsAt 1) (s.failsAt 2) ≠ .ok) :
    (initDisplay s).1 = ranOf (hwResetStatus (s.failsAt 0) (s.failsAt 1) (s.failsAt 2)) := by
  unfold initDisplay
  rw [hwReset_eq]
  cases hst : hwResetStatus (s.failsAt 0) (s.failsAt 1) (s.failsAt 2) with
  | ok => exact absurd hst h
  | _ => rfl

/-- An INIT that answers `ok` had its pulse and its WRITECMD's two GPIO calls succeed (R151, R150). -/
theorem init_ok (s t : State) (l : List Status) (h : exec .init s = .next t)
    (hr : t.response = some ⟨.ok, .none, l⟩) :
    (s.failsAt 0 = false ∧ s.failsAt 1 = false ∧ s.failsAt 2 = false) ∧
      s.failsAt 3 = false ∧ s.failsAt 5 = false := by
  have hnext := exec_wellFormed .init s rfl (exec_idle _ _ _ h)
  rw [h] at hnext
  cases hnext
  have hresp : responseOf (initDisplay s.begin).1 = ⟨.ok, .none, l⟩ := by simpa [bodyOf, plain] using hr
  have hpulse : hwResetStatus (s.failsAt 0) (s.failsAt 1) (s.failsAt 2) = .ok := by
    by_contra hne
    rw [initDisplay_pulse_fails s.begin hne, responseOf_ranOf] at hresp
    exact hne (congrArg Response.status hresp)
  obtain ⟨h0, h1, h2⟩ := (hwResetStatus_eq_ok_iff _ _ _).1 hpulse
  rw [initDisplay_pulsed s.begin h0 h1 h2, responseOf_ranOf] at hresp
  obtain ⟨h3, -, h5⟩ := (commandStatus_eq_ok_iff _ _ _).1 (congrArg Response.status hresp)
  exact ⟨⟨h0, h1, h2⟩, h3, h5⟩

/-- Settles O27: a successful INIT is past its pulse, so O56 gives its lines, and every next state keeps chip-select. -/
theorem initLeavesTheLinesAtRest : Obligations.InitLeavesTheLinesAtRest := by
  intro s t l hb hpins hcs hs h hr
  obtain ⟨⟨h0, h1, h2⟩, h3, h5⟩ := init_ok s t l h hr
  obtain ⟨hrst, hdc⟩ := initPastItsPulseLeavesTheLines s t hb hpins hs h0 h1 h2 h
  obtain ⟨hcfg, -⟩ := registersAreWrittenOnlyByTheirOperations _ _ _ h
  rw [hcfg]
  exact ⟨hrst, by simpa [h3, h5] using hdc, exec_chipSelect _ _ _ hcs h⟩

/-! ### Busy, dispatch and reset -/

/-- Settles O13: every instruction is an operation, and a pending request is run or rejected by a busy block. -/
theorem busyBlockRefusesEveryInstruction : Obligations.BusyBlockRefusesEveryInstruction := by
  refine ⟨exec_busy, fun s hb hreq => ?_⟩
  cases hbench : s.bench with
  | some bytes => exact step_busy s _ _ (fetch_bench s bytes hbench) hb
  | none =>
    cases hlist : s.requests with
    | nil => simp [hbench, hlist] at hreq
    | cons r rest => exact step_busy s _ _ (fetch_host s r rest hbench hlist) hb

/-- Settles O8, by what is fetched from the list and from the bench. -/
theorem stepRunsTheDecodedRequest : Obligations.StepRunsTheDecodedRequest :=
  ⟨fun s r rest i hb hr hd => step_decoded s _ _ i (fetch_host s r rest hb hr) hd,
    fun s bytes i hb hd => step_decoded s _ _ i (fetch_bench s bytes hb) hd⟩

/-- With nothing listed every byte is `FB_RESET`'s (R20). -/
theorem read_nil (p : Params) (a : Fin 1024) : Memory.read p [] a = p.fbReset[a] := by
  simp [Memory.read, Memory.lookup, unlisted]

/-- Settles O15: the framebuffer reads as `FB_RESET`, the registers are the table's. -/
theorem resetLeavesTheStateOfTheTable : Obligations.ResetLeavesTheStateOfTheTable :=
  ⟨read_nil State.reset.cfg, rfl, rfl, rfl, rfl, rfl, rfl, rfl, rfl, rfl, rfl, rfl, rfl, rfl⟩

/-- Settles O16, clause by clause; at reset the Dimming unit has not moved. -/
theorem resetMeetsTheInvariant : Obligations.ResetMeetsTheInvariant :=
  ⟨empty_wf _, ⟨rfl, rfl⟩, ⟨rfl, rfl⟩, ⟨rfl, rfl, rfl, rfl⟩, rfl, ⟨rfl, rfl⟩, by simp [State.reset]⟩

end Sys2Proof.Machine

/-! SUPPORT and settlements for the family of spec/20_memory.md: the trace and its answers (R73 to R76), the encoder's
bench (log 4), what each instruction sends over SPI (R60, R108), and the pixels a WRITE assigns (R62, R155). -/

namespace Sys2Proof.Machine

/-! ### The trace and the bench -/

/-- Settles O18: waiting, fetching and refusing leave the trace, and every instruction keeps its discipline. -/
theorem stepKeepsTheChipSelectDiscipline : Obligations.StepKeepsTheChipSelectDiscipline := by
  intro s t hs h
  obtain rfl | ⟨r, u, hf, hu⟩ := step_cases s t h
  · exact hs
  · obtain ⟨bench, requests, rfl⟩ := fetch_some s u r hf
    obtain ⟨i, hi⟩ | ⟨-, rfl⟩ := hu
    · exact exec_chipSelect i { s with bench := bench, requests := requests } t hs hi
    · exact hs

/-- The writes of an instruction touch neither the answers taken nor those to come. -/
theorem Writes.answers_eq {i : Instr} {s w : State} (h : Writes s i w) :
    w.answers = s.answers ∧ w.oracle = s.oracle ∧ w.asked = s.asked ∧ w.answerAt = s.answerAt := by
  cases h <;> exact ⟨rfl, rfl, rfl, rfl⟩

/-- Settles O19: the events after an instruction's writes take one answer each, and a refusal has none. -/
theorem traceGrowsByAnsweredEvents : Obligations.TraceGrowsByAnsweredEvents := by
  intro i s t h
  obtain rfl | ⟨-, w, evs, r, hw, -, rfl⟩ := exec_cases i s t h
  · exact ⟨[], by simp⟩
  · obtain ⟨hanswers, horacle, hasked, hcoming⟩ := hw.answers_eq
    exact ⟨evs, by simp [State.respond, hw.trace_eq, hanswers, horacle, hasked, hcoming]⟩

/-- A filled bench is always fetched (log 4). -/
theorem bench_of_fetch_none (s : State) (h : s.fetch = none) : s.bench = none := by
  cases hb : s.bench with
  | none => rfl
  | some bytes => simp [fetch_bench s bytes hb] at h

/-- Fetching leaves the bench empty (log 4). -/
theorem bench_after_fetch (s u : State) (r : Request) (h : s.fetch = some (r, u)) : u.bench = none := by
  unfold State.fetch at h
  split at h
  · cases h; rfl
  · next hb _ => cases h; exact hb
  · cases h

/-- A step with nothing to fetch waits (R341). -/
theorem step_waits (s : State) (h : s.fetch = none) : step s = .next s := by
  simp only [step, h, waitForHost]

/-- A step that fetches a request runs an instruction, or refuses the request. -/
theorem step_of_fetch (s t u : State) (r : Request) (hf : s.fetch = some (r, u)) (h : step s = .next t) :
    (∃ i, exec i u = .next t) ∨ t = u.refuse := by
  simp only [step, hf] at h
  split at h
  · next i _ => exact .inl ⟨i, h⟩
  · exact .inr (whenIdle_next _ _ _ h).2

/-- Settles O23: fetching empties the bench, and no instruction fills it (O20). -/
theorem stepLeavesTheBenchEmpty : Obligations.StepLeavesTheBenchEmpty := by
  refine ⟨rfl, fun s t h => ?_⟩
  cases hf : s.fetch with
  | none =>
    rw [step_waits s hf] at h
    cases h
    exact bench_of_fetch_none s hf
  | some p =>
    obtain ⟨r, u⟩ := p
    have hu := bench_after_fetch s u r hf
    obtain ⟨i, hi⟩ | rfl := step_of_fetch s t u r hf h
    · obtain ⟨-, -, hbench, -⟩ := registersAreWrittenOnlyByTheirOperations i u t hi
      exact hbench.trans hu
    · exact hu

/-! ### What is sent over SPI -/

/-- `u`'s trace is `s`'s and then events whose transfers all have a payload in `P`. -/
def SendsOnly (P : List Byte → Prop) (s u : State) : Prop :=
  ∃ l, u.trace = s.trace ++ l ∧ ∀ w, Event.spi w ∈ l → P w

section Sends

variable {P : List Byte → Prop} {s t u : State}

theorem sendsOnly_of_trace_eq (h : u.trace = s.trace) : SendsOnly P s u := ⟨[], by simp [h]⟩

theorem SendsOnly.trans (h1 : SendsOnly P s t) (h2 : SendsOnly P t u) : SendsOnly P s u := by
  obtain ⟨l1, ht, hl1⟩ := h1
  obtain ⟨l2, hu, hl2⟩ := h2
  refine ⟨l1 ++ l2, by simp [hu, ht], fun w hw => ?_⟩
  obtain hw | hw := List.mem_append.1 hw
  · exact hl1 w hw
  · exact hl2 w hw

theorem sendsOnly_after (s : State) (evs : List Event) (k : Nat) (p : Phase) (h : ∀ w, Event.spi w ∈ evs → P w) :
    SendsOnly P s ((s.after evs k).inPhase p) := ⟨evs, rfl, h⟩

/-- WRITECMD sends its bytes, or nothing (R150). -/
theorem writeCmd_sendsOnly (l : List Byte) (s : State) (hl : P l) : SendsOnly P s (writeCmd l s).2 := by
  rw [writeCmd_eq]
  refine sendsOnly_after s _ _ _ fun w hw => ?_
  cases hf : s.failsAt 0 with
  | true => simp [hf, commandTrace] at hw
  | false =>
    obtain rfl : w = l := by simpa [hf, commandTrace, commandEvents] using hw
    exact hl

/-- HWRESET sends nothing over SPI (R151). -/
theorem hwReset_sendsOnly (s : State) : SendsOnly P s (hwReset s).2 := by
  rw [hwReset_eq]
  refine sendsOnly_after s _ _ _ fun w hw => ?_
  simpa [hwResetEvents] using List.mem_of_mem_take hw

/-- A flush sends one frame of 1024 bytes (R68, R159). -/
theorem sendFrame_sendsOnly (s : State) (hP : ∀ w, w.length = 1024 → P w) : SendsOnly P s (sendFrame s).2 := by
  rw [sendFrame_eq]
  have hframe : ∀ w, Event.spi w ∈ frameEvents s.frame → P w := by
    simpa [frameEvents] using hP s.frame (frame_length s)
  exact sendsOnly_after s _ _ _ hframe

theorem busWrite_sendsOnly (p : Phase) (addr : Nat) (l : List Byte) (s : State) :
    SendsOnly P s (busWrite p addr l s).2 := by
  rw [busWrite_eq]
  exact sendsOnly_after _ _ _ _ (by simp)

theorem busRead_sendsOnly (p : Phase) (addr n : Nat) (s : State) : SendsOnly P s (busRead p addr n s).2 := by
  rw [busRead_eq]
  exact sendsOnly_after _ _ _ _ (by simp)

theorem delay_sendsOnly (p : Phase) (ms : Nat) (s : State) : SendsOnly P s (delay p ms s) := by
  rw [delay_eq]
  exact sendsOnly_after _ _ _ _ (by simp)

/-- LUX's cycle is on the I2C bus alone (R224). -/
theorem readLux_sendsOnly (s : State) : SendsOnly P s (readLux s).2 := by
  have hevents (g : Gain) (k : Nat) : SendsOnly P s (luxCycle g k s).2 := by
    rcases luxCycle_cases g k s with ⟨_, h⟩ | ⟨_, _, h⟩ | ⟨_, _, _, h⟩ <;>
      (rw [h]; exact sendsOnly_after _ _ _ _ (by simp [luxEvents]))
  unfold readLux
  split
  · exact hevents _ _
  · exact sendsOnly_of_trace_eq rfl

theorem luxBody_sendsOnly (s : State) : SendsOnly P s (luxBody s).2 := by
  have hread := readLux_sendsOnly (P := P) s
  unfold luxBody
  split <;> next heq => rwa [heq] at hread

theorem measureBody_sendsOnly (s : State) : SendsOnly P s (measureBody s).2 := by
  have hreq := busWrite_sendsOnly (P := P) .request s.cfg.thAddr [thCmdMeasure] s
  unfold measureBody
  split
  · next heq => rwa [heq] at hreq
  · next s1 heq =>
    rw [heq] at hreq
    have hread := (hreq.trans (delay_sendsOnly .convert 10 s1)).trans (busRead_sendsOnly .read s1.cfg.thAddr 6 _)
    split <;> next heq' => rw [heq'] at hread; exact hread

theorem setGainIntegration_sendsOnly (g : Gain) (k : Nat) (s : State) :
    SendsOnly P s (setGainIntegration g k s).2 := by
  have hwrite := busWrite_sendsOnly (P := P) .write s.cfg.lightAddr
    [s.cfg.lightRegControl, controlByte s.cfg.gainCode g k] s
  unfold setGainIntegration
  split <;> next heq => rw [heq] at hwrite; exact hwrite

/-- INIT sends its burst, once the reset pulse succeeded (R152). -/
theorem initDisplay_sendsOnly (s : State) (hP : P (initBurst s.cfg)) : SendsOnly P s (initDisplay s).2 := by
  have hreset := hwReset_sendsOnly (P := P) s
  have hcfg : (hwReset s).2.cfg = s.cfg := by rw [hwReset_eq]; rfl
  unfold initDisplay
  split
  · next heq => rwa [heq] at hreset
  · next heq =>
    rw [heq] at hreset hcfg
    exact hreset.trans (writeCmd_sendsOnly _ _ (hcfg ▸ hP))

theorem putPixel_trace (s : State) (v : Byte) : (s.putPixel v).trace = s.trace := by
  rw [putPixel_eq]

/-- WRITE's loop sends frames (R157). -/
theorem writePixels_sendsOnly (hP : ∀ w, w.length = 1024 → P w) (data : List Byte) (n : Nat) (s : State) :
    SendsOnly P s (writePixels data n s).2.2 := by
  induction data generalizing n s with
  | nil => exact sendsOnly_of_trace_eq rfl
  | cons v vs ih =>
    have hput : SendsOnly P s (s.putPixel v) := sendsOnly_of_trace_eq (putPixel_trace s v)
    cases hend : s.atFrameEnd with
    | false =>
      rw [writePixels_inside _ _ _ _ hend]
      exact hput.trans (ih _ _)
    | true =>
      have hflush := hput.trans (sendFrame_sendsOnly (s.putPixel v) hP)
      rw [sendFrame_eq] at hflush
      cases hf : s.failsAt 0 with
      | false =>
        rw [writePixels_flush _ _ _ _ hend hf]
        exact hflush.trans (ih _ _)
      | true =>
        rw [writePixels_flush_fails _ _ _ _ hend hf]
        exact hflush

end Sends

/-! ### A tick's writes and calls

Whatever property a tick's three building blocks keep, every part of DIMTICK keeps. -/

section Tick

variable {Q : State → Prop} (hwindow : ∀ u active ne, Q u → Q (u.setWindow active ne))
  (hlux : ∀ u, Q u → Q (readLux u).2) (hpower : ∀ wanted u, Q u → Q (powerCommand wanted u).2)

include hlux hpower in
theorem luxGate_keeps (luxMin : Rat) (s : State) (hs : Q s) : Q (luxGate luxMin s).2 := by
  have hread := hlux s hs
  unfold luxGate
  split
  · next heq => rwa [heq] at hread
  · next heq =>
    rw [heq] at hread
    split <;> split
    · exact hpower false _ hread
    · exact hread
    · exact hread
    · exact hpower true _ hread

include hwindow hpower in
theorem recomputeWindow_keeps (f t now : Int) (s : State) (hs : Q s) : Q (recomputeWindow f t now s).2.2 := by
  unfold recomputeWindow
  dsimp only
  split
  · exact hpower true _ (hwindow _ _ _ hs)
  · exact hwindow _ _ _ hs

include hwindow hpower in
theorem windowStep_keeps (f t now : Int) (s : State) (hs : Q s) : Q (windowStep f t now s).2.2 := by
  have hrecompute := recomputeWindow_keeps hwindow hpower f t now s hs
  unfold windowStep
  split
  · exact hrecompute
  · split
    · exact hrecompute
    · exact hs

include hwindow hlux hpower

/-- What a new window, a lux read and a power command keep, a DIMTICK keeps (R254 to R256). -/
theorem dimtickBody_keeps (now : Int) (s : State) (hs : Q s) : Q (dimtickBody now s).2 := by
  unfold dimtickBody
  split
  · next f t luxMin _ _ _ _ _ _ _ =>
    have hstep := windowStep_keeps hwindow hpower f t now s hs
    unfold tick
    dsimp only
    split
    · exact luxGate_keeps hlux hpower luxMin _ hstep
    · exact hstep
  · exact hs

end Tick

/-- A tick sends power commands alone (R255, R256). -/
theorem dimtickBody_sendsOnly {P : List Byte → Prop} (hP : ∀ wanted, P [powerByte wanted]) (now : Int) (s : State) :
    SendsOnly P s (dimtickBody now s).2 := by
  have hpower (wanted : Bool) (u : State) : SendsOnly P u (powerCommand wanted u).2 := by
    have hcmd := writeCmd_sendsOnly _ u (hP wanted)
    rw [writeCmd_eq] at hcmd
    rw [powerCommand_eq]
    exact hcmd.trans (sendsOnly_of_trace_eq rfl)
  exact dimtickBody_keeps (fun _ _ _ h => h.trans (sendsOnly_of_trace_eq rfl))
    (fun u h => h.trans (readLux_sendsOnly u)) (fun wanted u h => h.trans (hpower wanted u)) now s
    (sendsOnly_of_trace_eq rfl)

/-- The payloads R60, R108 and R110 leave to an instruction. -/
def PayloadOf (p : Params) (i : Instr) (w : List Byte) : Prop :=
  (i = .init ∧ w = initBurst p) ∨
  ((i = .on ∨ ∃ now, i = .dimtick now) ∧ w = [0xAF#8]) ∨
  ((i = .off ∨ ∃ now, i = .dimtick now) ∧ w = [0xAE#8]) ∨
  ((i = .display ∨ ∃ data, i = .write data) ∧ w.length = 1024)

theorem bodyOf_sendsOnly (i : Instr) (s : State) : SendsOnly (PayloadOf s.cfg i) s (bodyOf i s).2 := by
  cases i with
  | init => exact initDisplay_sendsOnly s (.inl ⟨rfl, rfl⟩)
  | write data => exact writePixels_sendsOnly (fun w hw => .inr (.inr (.inr ⟨.inr ⟨data, rfl⟩, hw⟩))) data 0 s
  | display => exact sendFrame_sendsOnly s fun w hw => .inr (.inr (.inr ⟨.inl rfl, hw⟩))
  | on => exact writeCmd_sendsOnly _ s (.inr (.inl ⟨.inl rfl, rfl⟩))
  | off => exact writeCmd_sendsOnly _ s (.inr (.inr (.inl ⟨.inl rfl, rfl⟩)))
  | measure => exact measureBody_sendsOnly s
  | setgi gain itime => exact setGainIntegration_sendsOnly gain itime s
  | lux => exact luxBody_sendsOnly s
  | evaluate now => exact sendsOnly_of_trace_eq (by rw [bodyOf, evaluateBody_state])
  | dimtick now =>
    refine dimtickBody_sendsOnly (fun wanted => ?_) now s
    cases wanted with
    | true => exact .inr (.inl ⟨.inr ⟨now, rfl⟩, rfl⟩)
    | false => exact .inr (.inr (.inl ⟨.inr ⟨now, rfl⟩, rfl⟩))
  | _ => exact sendsOnly_of_trace_eq rfl

/-- Settles O22: a refusal sends nothing, and an instruction what its body sends. -/
theorem instructionsSendOnlyTheirPayloads : Obligations.InstructionsSendOnlyTheirPayloads := by
  intro i s t h
  rw [exec_eq_operation] at h
  obtain ⟨-, ⟨-, rfl⟩ | ⟨-, rfl⟩⟩ := operation_cases _ _ _ _ h
  · exact ⟨[], by simp⟩
  · exact bodyOf_sendsOnly i s.begin

/-! ### The pixels of a WRITE -/

/-- Assigning a bit assigns that bit alone (R155). -/
theorem getLsbD_assignBit (old : Byte) (k j : Nat) (lit : Bool) (hj : j < 8) :
    (assignBit old k lit).getLsbD j = if j = k then lit else old.getLsbD j := by
  have hmask : 0xFF#8 - 1#8 <<< k = ~~~(1#8 <<< k) := BitVec.allOnes_sub_eq_not _
  have hbit : (1#8 <<< k).getLsbD j = decide (j = k) := by
    rw [← BitVec.twoPow_eq, BitVec.getLsbD_twoPow]
    by_cases h : j = k
    · simp [h.symm, hj]
    · simp [h, Ne.symm h]
  cases lit with
  | true =>
    rw [assignBit, if_pos rfl, BitVec.getLsbD_or, hbit]
    by_cases h : j = k <;> simp [h]
  | false =>
    rw [assignBit, if_neg Bool.false_ne_true, hmask, BitVec.getLsbD_and, BitVec.getLsbD_not, hbit]
    by_cases h : j = k <;> simp [h, hj]

/-- Two pixels with one byte and one bit are at one linear position (R62). -/
theorem pixByte_pixBit_eq_iff (x x' : Fin 128) (y y' : Fin 64) :
    (pixByte x y = pixByte x' y' ∧ pixBit y = pixBit y') ↔ y.val * 128 + x.val = y'.val * 128 + x'.val := by
  simp only [pixByte, pixBit, Fin.ext_iff]
  omega

theorem pixBit_lt (y : Fin 64) : pixBit y < 8 := Nat.mod_lt _ (by omega)

/-- STORE_PIXEL and ADVANCE assign the pixel under the cursor and no other (R155). -/
theorem putPixel_pixel (s : State) (v : Byte) (x : Fin 128) (y : Fin 64) (h : Memory.wf s.cfg s.fb) :
    (s.putPixel v).pixel x y = if y.val * 128 + x.val = s.position then pixelLit v else s.pixel x y := by
  have hadvance : (s.putPixel v).pixel x y = (s.storePixel v).pixel x y := by
    simp [State.putPixel, State.pixel, State.fbByte]
  have hsame := pixByte_pixBit_eq_iff x s.curX y s.curY
  rw [hadvance, State.position, State.pixel, State.pixel]
  by_cases hbyte : pixByte x y = pixByte s.curX s.curY
  · rw [hbyte, storePixel_fbByte_same s v h, getLsbD_assignBit _ _ _ _ (pixBit_lt y)]
    simp [← hsame, hbyte]
  · rw [storePixel_fbByte_other s v _ hbyte]
    simp [← hsame, hbyte]

theorem putPixel_position_succ (s : State) (v : Byte) (h : s.atFrameEnd = false) :
    (s.putPixel v).position = s.position + 1 := by
  have hpos : (s.putPixel v).position = (s.position + 1) % 8192 := putPixel_position s v
  have hend : s.position ≠ 8191 := fun e => by simp [s.atFrameEnd_iff.2 e] at h
  have hx := s.curX.isLt
  have hy := s.curY.isLt
  unfold State.position at *
  omega

theorem OnlyBus.pixel {s u : State} (h : OnlyBus s u) (x : Fin 128) (y : Fin 64) : u.pixel x y = s.pixel x y := by
  obtain ⟨evs, p, rfl, -⟩ := h
  rfl

/-- Whether the pixel at position `p` is lit after `data` is written from position `start`; `old` before. -/
def litAfter (data : List Byte) (start p : Nat) (old : Bool) : Bool :=
  if start ≤ p ∧ p < start + data.length then pixelLit (data.getD (p - start) 0#8) else old

theorem litAfter_nil (start p : Nat) (old : Bool) : litAfter [] start p old = old :=
  if_neg (by simp only [List.length_nil]; omega)

theorem litAfter_cons (v : Byte) (vs : List Byte) (start p : Nat) (old : Bool) :
    litAfter (v :: vs) start p old = litAfter vs (start + 1) p (if p = start then pixelLit v else old) := by
  unfold litAfter
  rw [List.length_cons]
  obtain hlt | rfl | hgt := Nat.lt_trichotomy p start
  · rw [if_neg (by omega), if_neg (by omega), if_neg (by omega)]
  · rw [if_pos (by omega), if_neg (by omega), if_pos rfl, Nat.sub_self]
    rfl
  · have hidx : p - start = p - (start + 1) + 1 := by omega
    rw [if_neg (by omega : ¬p = start), hidx, List.getD_cons_succ]
    exact if_congr (by omega) rfl rfl

/-- WRITE's loop up to a frame's end assigns its pixels and no other, whatever the flush answers (R154, R155). -/
theorem writePixels_pixel (data : List Byte) (n : Nat) (s : State) (x : Fin 128) (y : Fin 64)
    (hm : Memory.wf s.cfg s.fb) (hlen : s.position + data.length ≤ 8192) :
    (writePixels data n s).2.2.pixel x y = litAfter data s.position (y.val * 128 + x.val) (s.pixel x y) := by
  induction data generalizing n s with
  | nil => exact (litAfter_nil _ _ _).symm
  | cons v vs ih =>
    rw [List.length_cons] at hlen
    rw [litAfter_cons, ← putPixel_pixel s v x y hm]
    cases hend : s.atFrameEnd with
    | false =>
      have hpos := putPixel_position_succ s v hend
      have hm' : Memory.wf (s.putPixel v).cfg (s.putPixel v).fb := by
        rw [putPixel_eq]; exact putPixel_wf s v hm
      rw [writePixels_inside _ _ _ _ hend, ih _ _ hm' (by omega), hpos]
    | true =>
      have hlast : s.position = 8191 := s.atFrameEnd_iff.1 hend
      obtain rfl : vs = [] := List.eq_nil_of_length_eq_zero (by omega)
      obtain ⟨u, hbus, hu | hu⟩ := writePixels_cons v [] n s <;>
        rw [hu, litAfter_nil] <;> exact hbus.pixel x y

/-- Settles O31, by the pixels of WRITE's loop. -/
theorem writeAssignsTheAddressedPixels : Obligations.WriteAssignsTheAddressedPixels := by
  intro s data hb hm hlen
  exact ⟨_, exec_wellFormed (.write data) s rfl hb, fun x y => writePixels_pixel data 0 s.begin x y hm hlen⟩

end Sys2Proof.Machine

/-! SUPPORT and settlements for the family of spec/30_encoding.md: the codes of the two layers (R91 to R97), what is
refused (R106, R107), a display command on its own (log 4), and LUX's lux as one fraction (R227). -/

namespace Sys2Proof.Machine

/-! ### Display commands: encoding, then decoding -/

/-- A display command takes one to three bytes (R94). -/
theorem commandBytes_length (i : Instr) (h : isHostOperation i = false) :
    1 ≤ (commandBytes i).length ∧ (commandBytes i).length ≤ 3 := by
  cases i <;> cases h <;> simp [commandBytes]

/-- A display command travels as its bytes (R94). -/
theorem encode_command (i : Instr) (h : isHostOperation i = false) : encode i = .command (commandBytes i) := by
  cases i <;> cases h <;> rfl

/-- A display command has no operand outside its type (R93, R107). -/
theorem wellFormed_command (i : Instr) (h : isHostOperation i = false) : i.wellFormed = true := by
  cases i <;> cases h <;> rfl

/-- The mask of a row with no field in byte 0 keeps all of it (R96). -/
theorem and_fullMask (op : Byte) : op &&& 0xFF#8 = op := BitVec.and_allOnes

/-- A byte that matches SETSTARTLINE's row matches none of the rows above it (R96). -/
theorem decodeFirst_startLineRow (op : Byte) (rest : List Byte) (h : op &&& 0xC0#8 = 0x40#8) :
    decodeFirst (op :: rest) = .ok (.setstartline (op.extractLsb' 0 6), rest) := by
  have above (c : Byte) (hc : c &&& 0xC0#8 ≠ 0x40#8) : op &&& 0xFF#8 ≠ c := by
    rintro rfl
    rw [and_fullMask] at hc
    exact hc h
  simp only [decodeFirst, above 0xAE#8 (by decide), above 0xD5#8 (by decide), above 0xA8#8 (by decide),
    above 0xD3#8 (by decide), h, if_true, if_false, noParameter]

/-- Byte 0 of SETSTARTLINE has the row's fixed bits, and the line in bits 5:0 (R96). -/
theorem startLineByte_fields (n : BitVec 6) :
    (0x40#8 ||| n.setWidth 8) &&& 0xC0#8 = 0x40#8 ∧ (0x40#8 ||| n.setWidth 8).extractLsb' 0 6 = n := by
  constructor <;> ext k hk <;> interval_cases k <;> simp

theorem decodeFirst_setstartline (n : BitVec 6) (rest : List Byte) :
    decodeFirst (commandBytes (.setstartline n) ++ rest) = .ok (.setstartline n, rest) := by
  obtain ⟨hrow, hline⟩ := startLineByte_fields n
  have hread := decodeFirst_startLineRow _ rest hrow
  rwa [hline] at hread

/-- A display command's bytes read back into it, whatever follows them (R95, R97). -/
theorem decodeFirst_commandBytes (i : Instr) (h : isHostOperation i = false) (rest : List Byte) :
    decodeFirst (commandBytes i ++ rest) = .ok (i, rest) := by
  cases i with
  | setstartline n => exact decodeFirst_setstartline n rest
  | segremap r => obtain rfl | rfl := BitVec.eq_zero_or_eq_one r <;> rfl
  | comscandir d => obtain rfl | rfl := BitVec.eq_zero_or_eq_one d <;> rfl
  | _ => cases h <;> rfl

/-! ### Display commands: decoding, then encoding -/

/-- Whatever `e` reads from the front of `bytes` is a display command whose bytes stand there, the rest after them. -/
def ReadsFront (bytes : List Byte) (e : Except Reject (Instr × List Byte)) : Prop :=
  ∀ i rest, e = .ok (i, rest) → isHostOperation i = false ∧ bytes = commandBytes i ++ rest

section Rows

variable {op c : Byte} {tail : List Byte}

/-- A row of the table, and the rows below it. -/
theorem readsFront_ite {p : Prop} [Decidable p] {bytes : List Byte} {e f : Except Reject (Instr × List Byte)}
    (he : p → ReadsFront bytes e) (hf : ReadsFront bytes f) : ReadsFront bytes (if p then e else f) := by
  split
  · next hp => exact he hp
  · exact hf

theorem readsFront_error {bytes : List Byte} (r : Reject) : ReadsFront bytes (.error r) := by
  intro i rest h
  cases h

theorem readsFront_noParameter {i : Instr} (hi : isHostOperation i = false) (hb : commandBytes i = [op]) :
    ReadsFront (op :: tail) (noParameter i tail) := by
  intro j rest h
  cases h
  exact ⟨hi, by rw [hb]; rfl⟩

/-- A row of format C1 (R94). -/
theorem readsFront_c1 {i : Instr} (hi : isHostOperation i = false ∧ commandBytes i = [c]) (h : op &&& 0xFF#8 = c) :
    ReadsFront (op :: tail) (noParameter i tail) := by
  rw [and_fullMask] at h
  exact readsFront_noParameter hi.1 (h ▸ hi.2)

/-- A row of format C2 (R94). -/
theorem readsFront_c2 {f : Byte → Instr} (hf : ∀ a, isHostOperation (f a) = false ∧ commandBytes (f a) = [c, a])
    (h : op &&& 0xFF#8 = c) : ReadsFront (op :: tail) (oneParameter f tail) := by
  intro i rest hi
  rw [and_fullMask] at h
  cases tail with
  | nil => cases hi
  | cons a tail =>
    cases hi
    obtain ⟨hlayer, hbytes⟩ := hf a
    exact ⟨hlayer, by rw [hbytes, h]; rfl⟩

/-- A row of format C3 (R94). -/
theorem readsFront_c3 {f : Byte → Byte → Instr}
    (hf : ∀ a b, isHostOperation (f a b) = false ∧ commandBytes (f a b) = [c, a, b]) (h : op &&& 0xFF#8 = c) :
    ReadsFront (op :: tail) (twoParameters f tail) := by
  intro i rest hi
  rw [and_fullMask] at h
  match tail with
  | [] | [_] => cases hi
  | a :: b :: tail =>
    cases hi
    obtain ⟨hlayer, hbytes⟩ := hf a b
    exact ⟨hlayer, by rw [hbytes, h]; rfl⟩

end Rows

/-- A byte is its fixed bits and its field, in each of the three rows of format C1F (R96). -/
theorem fixedBits_or_field (op : Byte) :
    op &&& 0xC0#8 ||| (op.extractLsb' 0 6).setWidth 8 = op ∧
    op &&& 0xFE#8 ||| (op.extractLsb' 0 1).setWidth 8 = op ∧
    op &&& 0xF7#8 ||| (op.extractLsb' 3 1).setWidth 8 <<< 3 = op := by
  refine ⟨?_, ?_, ?_⟩ <;> ext k hk <;> interval_cases k <;> simp

/-- A byte that matches a row of format C1F is the row's command with the field the byte holds (R96). -/
theorem commandBytes_field (op : Byte) :
    (op &&& 0xC0#8 = 0x40#8 → commandBytes (.setstartline (op.extractLsb' 0 6)) = [op]) ∧
    (op &&& 0xFE#8 = 0xA0#8 → commandBytes (.segremap (op.extractLsb' 0 1)) = [op]) ∧
    (op &&& 0xF7#8 = 0xC0#8 → commandBytes (.comscandir (op.extractLsb' 3 1)) = [op]) := by
  obtain ⟨hstartline, hsegremap, hcomscandir⟩ := fixedBits_or_field op
  exact ⟨fun h => by rw [commandBytes, ← h, hstartline], fun h => by rw [commandBytes, ← h, hsegremap],
    fun h => by rw [commandBytes, ← h, hcomscandir]⟩

/-- The first command read drops no bit of the bytes, row by row (R96, R97). -/
theorem decodeFirst_readsFront (bytes : List Byte) : ReadsFront bytes (decodeFirst bytes) := by
  cases bytes with
  | nil => exact readsFront_error _
  | cons op tail =>
    obtain ⟨hstartline, hsegremap, hcomscandir⟩ := commandBytes_field op
    exact
      readsFront_ite (readsFront_c1 ⟨rfl, rfl⟩) <|
      readsFront_ite (readsFront_c2 fun _ => ⟨rfl, rfl⟩) <|
      readsFront_ite (readsFront_c2 fun _ => ⟨rfl, rfl⟩) <|
      readsFront_ite (readsFront_c2 fun _ => ⟨rfl, rfl⟩) <|
      readsFront_ite (fun h => readsFront_noParameter rfl (hstartline h)) <|
      readsFront_ite (readsFront_c2 fun _ => ⟨rfl, rfl⟩) <|
      readsFront_ite (readsFront_c2 fun _ => ⟨rfl, rfl⟩) <|
      readsFront_ite (fun h => readsFront_noParameter rfl (hsegremap h)) <|
      readsFront_ite (fun h => readsFront_noParameter rfl (hcomscandir h)) <|
      readsFront_ite (readsFront_c2 fun _ => ⟨rfl, rfl⟩) <|
      readsFront_ite (readsFront_c2 fun _ => ⟨rfl, rfl⟩) <|
      readsFront_ite (readsFront_c2 fun _ => ⟨rfl, rfl⟩) <|
      readsFront_ite (readsFront_c2 fun _ => ⟨rfl, rfl⟩) <|
      readsFront_ite (readsFront_c1 ⟨rfl, rfl⟩) <|
      readsFront_ite (readsFront_c1 ⟨rfl, rfl⟩) <|
      readsFront_ite (readsFront_c1 ⟨rfl, rfl⟩) <|
      readsFront_ite (readsFront_c3 fun _ _ => ⟨rfl, rfl⟩) <|
      readsFront_ite (readsFront_c3 fun _ _ => ⟨rfl, rfl⟩) <|
      readsFront_error _

/-- Bytes decode to exactly the display command they encode (R96). -/
theorem decodeCommand_eq_ok_iff (bytes : List Byte) (i : Instr) :
    decodeCommand bytes = .ok i ↔ isHostOperation i = false ∧ bytes = commandBytes i := by
  constructor
  · intro h
    unfold decodeCommand at h
    split at h
    · next heq =>
      cases h
      simpa using decodeFirst_readsFront bytes _ _ heq
    · cases h
    · cases h
  · rintro ⟨hi, rfl⟩
    have hread := decodeFirst_commandBytes i hi []
    rw [List.append_nil] at hread
    simp only [decodeCommand, hread]

/-! ### Host requests -/

theorem gainOfIndex_gainIndex (g : Gain) : gainOfIndex (gainIndex g) = some g := by
  cases g <;> rfl

theorem gainIndex_of_gainOfIndex (n : Int) (g : Gain) (h : gainOfIndex n = some g) : gainIndex g = n := by
  unfold gainOfIndex at h
  split_ifs at h <;> cases h <;> simp_all [gainIndex]

/-- Whatever `e` reads from a request is an instruction inside its types that encodes to the request. -/
def ReadsRequest (r : Request) (e : Except Reject Instr) : Prop :=
  ∀ i, e = .ok i → encode i = r ∧ i.wellFormed = true

section Codes

variable {code c : Byte} {operands : List Operand}

/-- A code of the table, and the codes below it. -/
theorem readsRequest_ite {e f : Except Reject Instr} (he : ReadsRequest (.op c operands) e)
    (hf : ReadsRequest (.op code operands) f) : ReadsRequest (.op code operands) (if code = c then e else f) := by
  split
  · next hc => exact hc ▸ he
  · exact hf

theorem readsRequest_bare {i : Instr} (hi : encode i = .op c [] ∧ i.wellFormed = true) :
    ReadsRequest (.op c operands) (decodeBare i operands) := by
  intro j h
  unfold decodeBare at h
  split at h <;> cases h
  exact hi

theorem readsRequest_write : ReadsRequest (.op 0x02#8 operands) (decodeWrite operands) := by
  intro i h
  unfold decodeWrite at h
  split at h <;> cases h
  exact ⟨rfl, rfl⟩

theorem readsRequest_now {f : Int → Instr} (hf : ∀ t, encode (f t) = .op c [.num t] ∧ (f t).wellFormed = true) :
    ReadsRequest (.op c operands) (decodeNow f operands) := by
  intro i h
  unfold decodeNow at h
  split at h <;> cases h
  exact hf _

theorem readsRequest_setgi : ReadsRequest (.op 0x20#8 operands) (decodeSetgi operands) := by
  intro i h
  unfold decodeSetgi at h
  split at h
  · next g t =>
    split at h
    · cases h
    · next gain hgain =>
      split_ifs at h with ht
      cases h
      have hsteps : (t.toNat : Int) = t := by omega
      refine ⟨by rw [encode, gainIndex_of_gainOfIndex g gain hgain, hsteps], ?_⟩
      simp only [Instr.wellFormed, decide_eq_true_eq]
      omega
  · cases h

theorem readsRequest_config : ReadsRequest (.op 0x30#8 operands) (decodeConfig operands) := by
  intro i h
  unfold decodeConfig at h
  split at h
  · split_ifs at h with ht
    cases h
    exact ⟨rfl, ht⟩
  · cases h

end Codes

/-- The codes of R92, in its order; every other code is rejected (R106). -/
theorem decodeOp_readsRequest (code : Byte) (operands : List Operand) :
    ReadsRequest (.op code operands) (decodeOp code operands) :=
  readsRequest_ite (readsRequest_bare ⟨rfl, rfl⟩) <|
  readsRequest_ite readsRequest_write <|
  readsRequest_ite (readsRequest_bare ⟨rfl, rfl⟩) <|
  readsRequest_ite (readsRequest_bare ⟨rfl, rfl⟩) <|
  readsRequest_ite (readsRequest_bare ⟨rfl, rfl⟩) <|
  readsRequest_ite (readsRequest_bare ⟨rfl, rfl⟩) <|
  readsRequest_ite readsRequest_setgi <|
  readsRequest_ite (readsRequest_bare ⟨rfl, rfl⟩) <|
  readsRequest_ite readsRequest_config <|
  readsRequest_ite (readsRequest_now fun _ => ⟨rfl, rfl⟩) <|
  readsRequest_ite (readsRequest_now fun _ => ⟨rfl, rfl⟩) <|
  fun i h => by cases h

/-! ### Round trips -/

/-- A request of either layer decodes to nothing but an instruction inside its types that encodes to it. -/
theorem decode_readsRequest (r : Request) : ReadsRequest r (decode r) := by
  cases r with
  | op code operands => exact decodeOp_readsRequest code operands
  | command bytes =>
    intro i h
    obtain ⟨hi, rfl⟩ := (decodeCommand_eq_ok_iff bytes i).mp h
    exact ⟨encode_command i hi, wellFormed_command i hi⟩

theorem decode_encode_command (i : Instr) (h : isHostOperation i = false) : decode (encode i) = .ok i := by
  rw [encode_command i h]
  exact (decodeCommand_eq_ok_iff _ i).mpr ⟨h, rfl⟩

theorem decode_encode_setgi (g : Gain) (itime : Nat) (h : itime ≤ 5) :
    decode (encode (.setgi g itime)) = .ok (.setgi g itime) := by
  have hrange : (0 : Int) ≤ itime ∧ (itime : Int) ≤ 5 := by omega
  change decodeSetgi [.num (gainIndex g), .num itime] = _
  simp only [decodeSetgi, gainOfIndex_gainIndex, hrange, and_self, if_true, Int.toNat_natCast]

theorem decode_encode_config (f t : Int) (q : Rat) (h : (isTimeOfDay f && isTimeOfDay t) = true) :
    decode (encode (.config f t q)) = .ok (.config f t q) := by
  change decodeConfig [.num f, .num t, .rat q] = _
  simp only [decodeConfig, h, if_true]

/-- Settles O1: the layer of display commands byte by byte, of the host's operations code by code. -/
theorem decodeOfEncodeIsTheInstruction : Obligations.DecodeOfEncodeIsTheInstruction := by
  intro i hi
  cases hlayer : isHostOperation i with
  | false => exact decode_encode_command i hlayer
  | true =>
    cases i with
    | setgi g itime => exact decode_encode_setgi g itime (of_decide_eq_true hi)
    | config f t q => exact decode_encode_config f t q hi
    | _ => cases hlayer <;> rfl

/-- Settles O2: no code and no row drops a bit or an operand. -/
theorem encodeOfDecodeIsTheRequest : Obligations.EncodeOfDecodeIsTheRequest :=
  fun r i h => (decode_readsRequest r i h).1

/-- Settles O3: SETGI and CONFIG are read only inside their ranges. -/
theorem decodedInstructionsAreWellFormed : Obligations.DecodedInstructionsAreWellFormed :=
  fun r i h => (decode_readsRequest r i h).2

/-- Settles O4: each word is the encoding of its instruction, so O1 reads it back. -/
theorem specWordsDecodeToTheirInstructions : Obligations.SpecWordsDecodeToTheirInstructions :=
  have read := decodeOfEncodeIsTheInstruction
  ⟨read .init rfl, read (.write [200#8, 10#8]) rfl, read .measure rfl, read (.setgi .high 0) rfl,
    read (.config 73800 27000 5) rfl, read (.dimtick (-1)) rfl, read .displayoff rfl, read (.setstartline 63#6) rfl,
    read (.comscandir 1#1) rfl, read (.memorymode 0#8) rfl, read (.columnaddr 0#8 127#8) rfl⟩

/-- The values of byte 0 in the three rows of format C1F: the field is added to the fixed bits (R96). -/
theorem fieldByte_toNat :
    (∀ n, (commandBytes (.setstartline n)).map BitVec.toNat = [0x40 + n.toNat]) ∧
    (∀ r, (commandBytes (.segremap r)).map BitVec.toNat = [0xA0 + r.toNat]) ∧
    ∀ d, (commandBytes (.comscandir d)).map BitVec.toNat = [0xC0 + 8 * d.toNat] := by
  decide

/-- Settles O5: the rows with a field by its value, every other row as it stands. -/
theorem commandBytesAreTheTable : Obligations.CommandBytesAreTheTable := by
  obtain ⟨hstartline, hsegremap, hcomscandir⟩ := fieldByte_toNat
  exact ⟨rfl, fun _ => rfl, fun _ => rfl, fun _ => rfl, hstartline, fun _ => rfl, fun _ => rfl, hsegremap, hcomscandir,
    fun _ => rfl, fun _ => rfl, fun _ => rfl, fun _ => rfl, rfl, rfl, rfl, fun _ _ => rfl, fun _ _ => rfl⟩

/-! ### Bursts -/

/-- One round of the parser takes a command off the front of a burst (R97). -/
theorem parseCommands_append (fuel : Nat) (i : Instr) (is : List Instr) (bytes : List Byte)
    (hi : isHostOperation i = false) (h : parseCommands fuel bytes = .ok is) :
    parseCommands (fuel + 1) (commandBytes i ++ bytes) = .ok (i :: is) := by
  have hread := decodeFirst_commandBytes i hi bytes
  obtain ⟨hpos, -⟩ := commandBytes_length i hi
  obtain ⟨b, bs, hb⟩ := List.exists_cons_of_length_pos hpos
  rw [hb] at hread ⊢
  rw [List.cons_append] at hread ⊢
  simp only [parseCommands, hread, h]

/-- A burst of `l` reads back with one round for each command, or more (R97). -/
theorem parseCommands_flatMap (l : List Instr) (hl : ∀ i ∈ l, isHostOperation i = false) (fuel : Nat)
    (hfuel : l.length ≤ fuel) : parseCommands fuel (l.flatMap commandBytes) = .ok l := by
  induction l generalizing fuel with
  | nil => simp only [List.flatMap_nil, parseCommands]
  | cons i is ih =>
    obtain ⟨hi, his⟩ := List.forall_mem_cons.mp hl
    obtain ⟨fuel, rfl⟩ : ∃ k, fuel = k + 1 := ⟨fuel - 1, by simp at hfuel; omega⟩
    exact parseCommands_append fuel i is _ hi (ih his fuel (by simpa using hfuel))

/-- No command is empty, so a burst has at least as many bytes as commands (R94). -/
theorem length_le_flatMap_commandBytes (l : List Instr) (hl : ∀ i ∈ l, isHostOperation i = false) :
    l.length ≤ (l.flatMap commandBytes).length := by
  induction l with
  | nil => rfl
  | cons i is ih =>
    obtain ⟨hi, his⟩ := List.forall_mem_cons.mp hl
    have hpos := (commandBytes_length i hi).1
    have := ih his
    simp only [List.flatMap_cons, List.length_append, List.length_cons]
    omega

/-- Settles O6: the parser has a round for each byte, and so for each command. -/
theorem commandBurstsReadBack : Obligations.CommandBurstsReadBack :=
  fun l hl => parseCommands_flatMap l hl _ (length_le_flatMap_commandBytes l hl)

/-! ### What is refused -/

theorem step_rejected (s u : State) (r : Request) (e : Reject) (hf : s.fetch = some (r, u)) (hb : u.busy = false)
    (hd : decode r = .error e) : step s = .next u.refuse := by
  simp only [step, hf, hd]
  exact whenIdle_idle u _ hb

theorem exec_illegal (i : Instr) (s : State) (hi : i.wellFormed = false) (hb : s.busy = false) :
    exec i s = .next s.refuse := by
  rw [exec_eq_operation, hi, operation_illegal _ _ hb]

/-- Settles O12: what is fetched, from the list or the bench, is rejected. -/
theorem illegalRequestsAreRefused : Obligations.IllegalRequestsAreRefused :=
  ⟨fun s r rest e hb hbench hreq hd => step_rejected s _ _ e (fetch_host s r rest hbench hreq) hb hd,
    fun s bytes e hb hbench hd => step_rejected s _ _ e (fetch_bench s bytes hbench) hb hd⟩

/-- A code that R92 does not list is reserved, whatever comes with it (R106). -/
theorem decodeOp_reserved (code : Byte) (operands : List Operand)
    (h : code ∉ [0x01#8, 0x02#8, 0x03#8, 0x04#8, 0x05#8, 0x10#8, 0x20#8, 0x21#8, 0x30#8, 0x31#8, 0x32#8]) :
    decodeOp code operands = .error (.reservedCode code) := by
  simp only [List.mem_cons, List.not_mem_nil, or_false, not_or] at h
  simp only [decodeOp, h, if_false]

/-- Settles O10: a reserved code decodes to nothing, and O12 gives the step. -/
theorem reservedCodesAreRefused : Obligations.ReservedCodesAreRefused := by
  intro s code operands rest hb hbench hreq hcode
  exact illegalRequestsAreRefused.1 s ⟨code, operands⟩ rest _ hb hbench hreq (decodeOp_reserved code operands hcode)

/-- Settles O11: such instructions are not well-formed, and no operation runs them. -/
theorem illegalOperandsAreRefused : Obligations.IllegalOperandsAreRefused := by
  refine ⟨fun s gain itime hb h => exec_illegal _ s ?_ hb, fun s f t q hb h => exec_illegal _ s ?_ hb⟩
  · exact decide_eq_false (by omega)
  · simp only [Instr.wellFormed, isTimeOfDay, Bool.and_eq_false_iff, decide_eq_false_iff_not]
    omega

/-! ### A display command on its own, and LUX -/

theorem bodyOf_command (i : Instr) (h : isHostOperation i = false) :
    bodyOf i = fun s => (⟨.ok, .bytes (commandBytes i), []⟩, s) := by
  cases i <;> cases h <;> rfl

/-- Settles O37: its body gives the encoder's bytes and runs nothing. -/
theorem displayCommandsGiveTheirBytes : Obligations.DisplayCommandsGiveTheirBytes := by
  intro s hb i hi
  refine ⟨?_, commandBytes_length i hi⟩
  rw [exec_wellFormed i s (wellFormed_command i hi) hb, bodyOf_command i hi, finish_begin]

/-- LUX's formula as one fraction (R227, R228). -/
theorem luxFormula_eq (gain : Gain) (itime ch0 ch1 : Nat) :
    luxFormula gain itime ch0 ch1 =
      if ch0 = 0 then 0
      else 408 * ((ch0 : Rat) - (ch1 : Rat)) ^ 2 /
        ((ch0 : Rat) * ((integrationMs itime : Nat) : Rat) * ((gainFactor gain : Nat) : Rat)) := by
  unfold luxFormula
  split_ifs with h0
  · rfl
  · have hch0 : (ch0 : Rat) ≠ 0 := by exact_mod_cast h0
    have hms : ((integrationMs itime : Nat) : Rat) ≠ 0 := by
      simp only [integrationMs]
      positivity
    have hfactor : ((gainFactor gain : Nat) : Rat) ≠ 0 := by
      cases gain <;> norm_num [gainFactor]
    unfold cpl
    field_simp

theorem luxBody_reads (s : State) (gain : Gain) (itime : Nat) (b : Reply) (hg : s.gain = some gain)
    (ht : s.itime = some itime) (h0 : s.failsAt 0 = false) (h1 : s.answerAt 1 = .ok b) :
    luxBody s = (⟨.ok, .lux (roundResult s.cfg.numRound (luxFormula gain itime (channel0 b) (channel1 b))), []⟩,
      (s.after (luxEvents s.cfg itime) 3).inPhase .compute) := by
  simp only [luxBody, readLux, hg, ht, luxCycle_reads gain itime s b h0 h1]

/-- LUX with its enable and read answered: four events and the lux, nothing else (R224). -/
theorem exec_lux_reads (s : State) (gain : Gain) (itime : Nat) (b : Reply) (hb : s.busy = false)
    (hg : s.gain = some gain) (ht : s.itime = some itime) (h0 : s.failsAt 0 = false) (h1 : s.answerAt 1 = .ok b) :
    exec .lux s = .next (s.respond (luxEvents s.cfg itime) 3
      ⟨.ok, .lux (roundResult s.cfg.numRound (luxFormula gain itime (channel0 b) (channel1 b))), []⟩) := by
  rw [exec_wellFormed .lux s rfl hb]
  change Host.Outcome.next ((luxBody s.begin).2.finish (luxBody s.begin).1) = _
  rw [luxBody_reads s.begin gain itime b hg ht h0 h1]
  rfl

/-- Settles O43: the channels are little-endian (R103), and the formula is one fraction. -/
theorem luxComputesFromTheChannels : Obligations.LuxComputesFromTheChannels := by
  intro s gain itime b ch0 ch1 factor hfactor hb hg ht h0 h1 hch0 hch1
  have hf : factor = gainFactor gain := by rw [hfactor]; cases gain <;> rfl
  have hc0 : channel0 b = ch0 := by rw [channel0, word16_eq, hch0]; omega
  have hc1 : channel1 b = ch1 := by rw [channel1, word16_eq, hch1]; omega
  rw [exec_lux_reads s gain itime b hb hg ht h0 h1, hc0, hc1, luxFormula_eq, ← hf]
  rfl

end Sys2Proof.Machine

/-! SUPPORT and settlements for the family of spec/40_display.md: INIT's burst (R153), the one transfer of ON, OFF and
DISPLAY (R150, R159), INIT and its reset pulse (R151, R152), and WRITE by frames (R154 to R158, R181, R182). -/

namespace Sys2Proof.Machine

/-! ### INIT's burst -/

theorem isHostOperation_initCommands (p : Params) : ∀ i ∈ initCommands p, isHostOperation i = false := by
  simp [initCommands, isHostOperation, encode]

/-- Settles O7: the bytes for each scan direction, and that every burst reads back (O6). -/
theorem initBurstIsThe31Bytes : Obligations.InitBurstIsThe31Bytes := by
  intro p
  refine ⟨?_, commandBurstsReadBack (initCommands p) (isHostOperation_initCommands p)⟩
  obtain h | h := BitVec.eq_zero_or_eq_one p.comScanDir <;> simp [initBurst, initCommands, commandBytes, h]

/-! ### ON, OFF and DISPLAY: one transfer -/

/-- An operation that is one WRITECMD: its events and status, nothing else (R150). -/
theorem exec_writeCmd (i : Instr) (l : List Byte) (s : State) (hi : i.wellFormed = true)
    (hbody : bodyOf i = plain (writeCmd l)) (hb : s.busy = false) :
    exec i s = .next (s.respond (commandTrace s.cfg l (s.failsAt 0)) (commandCalls (s.failsAt 0))
      (bare (commandStatus (s.failsAt 0) (s.failsAt 1) (s.failsAt 2)))) := by
  rw [exec_wellFormed i s hi hb, hbody, plain, writeCmd_eq, responseOf_ranOf]
  rfl

/-- Settles O25: both are one WRITECMD of one byte. -/
theorem onAndOffSendOneCommandByte : Obligations.OnAndOffSendOneCommandByte :=
  ⟨rfl, rfl, rfl, rfl, fun s hb =>
    ⟨exec_writeCmd .on [0xAF#8] s rfl rfl hb, exec_writeCmd .off [0xAE#8] s rfl rfl hb⟩⟩

/-- Settles O29, by DISPLAY's transfer on its two paths. -/
theorem displaySendsTheWholeFramebuffer : Obligations.DisplaySendsTheWholeFramebuffer := by
  refine ⟨rfl, fun s hb => ?_⟩
  rw [exec_wellFormed .display s rfl hb, bodyOf, plain, sendFrame_eq, failsAt_begin]
  cases s.failsAt 0 <;> rfl

/-! ### INIT -/

/-- INIT ends with its reset pulse if that fails (R151, R152). -/
theorem initDisplay_stops (s : State) (h : hwResetStatus (s.failsAt 0) (s.failsAt 1) (s.failsAt 2) ≠ .ok) :
    initDisplay s = hwReset s := by
  unfold initDisplay
  rw [hwReset_eq]
  cases hst : hwResetStatus (s.failsAt 0) (s.failsAt 1) (s.failsAt 2) with
  | ok => exact absurd hst h
  | _ => rfl

/-- INIT with a failing reset pulse: the events up to the failing call, and that call's phase (R151). -/
theorem exec_init_stops (s : State) (hb : s.busy = false)
    (h : hwResetStatus (s.failsAt 0) (s.failsAt 1) (s.failsAt 2) ≠ .ok) :
    exec .init s = .next (s.respond
      ((hwResetEvents s.cfg).take (hwResetReach (s.failsAt 0) (s.failsAt 1)).1)
      (hwResetReach (s.failsAt 0) (s.failsAt 1)).2
      (bare (hwResetStatus (s.failsAt 0) (s.failsAt 1) (s.failsAt 2)))) := by
  rw [exec_wellFormed .init s rfl hb, bodyOf, plain, initDisplay_stops s.begin h, hwReset_eq, responseOf_ranOf]
  rfl

/-- Settles O26: the pulse stops at its first failing call, or the WRITECMD follows it. -/
theorem initPulsesResetThenSendsTheBurst : Obligations.InitPulsesResetThenSendsTheBurst := by
  refine ⟨rfl, fun _ => rfl, fun s hb => ?_⟩
  have hstop := exec_init_stops s hb
  split_ifs with h0 h1 h2
  · simpa [hwResetStatus, hwResetReach, hwResetEvents, h0] using hstop
  · simpa [hwResetStatus, hwResetReach, hwResetEvents, h0, h1] using hstop
  · simpa [hwResetStatus, hwResetReach, hwResetEvents, h0, h1, h2] using hstop
  · simp only [Bool.not_eq_true] at h0 h1 h2
    exact exec_init_pulsed s hb h0 h1 h2

/-- The lines after a reset pulse that failed: reset by its last successful call, every other line as before (R313). -/
theorem pinLevel_after_failed_hwReset (s : State) (pin : Nat) (hs : s.Answered)
    (h : hwResetStatus (s.failsAt 0) (s.failsAt 1) (s.failsAt 2) ≠ .ok) :
    (s.after ((hwResetEvents s.cfg).take (hwResetReach (s.failsAt 0) (s.failsAt 1)).1)
        (hwResetReach (s.failsAt 0) (s.failsAt 1)).2).pinLevel pin =
      if s.cfg.pinRst = pin then if s.failsAt 0 then s.pinLevel pin else some (s.failsAt 1)
      else s.pinLevel pin := by
  rw [pinLevel_after _ _ _ _ hs]
  cases h0 : s.failsAt 0 with
  | true => simp [hwResetReach, hwResetEvents, levelAfter, isAnswered, drive_gpio, h0]
  | false =>
    cases h1 : s.failsAt 1 with
    | true => simp [hwResetReach, hwResetEvents, levelAfter, isAnswered, List.range_succ, drive_gpio, h0, h1]
    | false =>
      have h2 : s.failsAt 2 = true := by simpa [hwResetStatus, h0, h1] using h
      by_cases hpin : s.cfg.pinRst = pin <;>
        simp [hwResetReach, hwResetEvents, levelAfter, isAnswered, List.range_succ, drive_gpio, hpin, h0, h1, h2]

/-- Settles O28, by the lines after a failed reset pulse and after a WRITECMD, whatever its bytes. -/
theorem failedCallsLeaveTheLines : Obligations.FailedCallsLeaveTheLines := by
  intro s hb hpins hs
  have hne : s.cfg.pinDc ≠ s.cfg.pinRst := by simpa [Params.wellFormed] using hpins
  constructor
  · intro t h hfail
    have hst : hwResetStatus (s.failsAt 0) (s.failsAt 1) (s.failsAt 2) ≠ .ok := fun hok => by
      obtain ⟨h0, h1, h2⟩ := (hwResetStatus_eq_ok_iff _ _ _).1 hok
      simp [h0, h1, h2] at hfail
    rw [exec_init_stops s hb hst] at h
    cases h
    have hlevel := fun pin => pinLevel_after_failed_hwReset s pin hs hst
    exact ⟨(hlevel _).trans (if_pos rfl), (hlevel _).trans (if_neg hne.symm)⟩
  · intro i t hi h
    obtain ⟨hw, l, hl⟩ : i.wellFormed = true ∧ ∃ l, bodyOf i = plain (writeCmd l) := by
      obtain rfl | rfl := hi <;> exact ⟨rfl, _, rfl⟩
    rw [exec_writeCmd i l s hw hl hb] at h
    cases h
    have hlevel := fun pin => pinLevel_after_writeCmd s l pin hs
    exact ⟨(hlevel _).trans (if_pos rfl), (hlevel _).trans (if_neg hne)⟩

/-! ### WRITE by frames -/

/-- On the bus, `u` is `s` after `q` flushes and nothing else (R157): DISPLAYs of 1024 bytes, an answer to each. -/
def Flushes (s u : State) (q : Nat) : Prop :=
  ∃ frames : List (List Byte), frames.length = q ∧ (∀ f ∈ frames, f.length = 1024) ∧
    u.trace = s.trace ++ frames.flatMap frameEvents ∧ u.oracle = s.oracle.drop q ∧ u.asked = s.asked + q

theorem flushes_refl (s : State) : Flushes s s 0 := ⟨[], rfl, by simp, by simp, rfl, rfl⟩

/-- Without a flush nothing is on the bus. -/
theorem Flushes.nothing {s u : State} (h : Flushes s u 0) :
    u.trace = s.trace ∧ u.oracle = s.oracle ∧ u.asked = s.asked := by
  obtain ⟨frames, hnil, -, htrace, horacle, hasked⟩ := h
  obtain rfl := List.eq_nil_of_length_eq_zero hnil
  exact ⟨by simpa using htrace, horacle, hasked⟩

theorem Flushes.trans {s t u : State} {p q : Nat} (h1 : Flushes s t p) (h2 : Flushes t u q) :
    Flushes s u (p + q) := by
  obtain ⟨f1, rfl, l1, t1, o1, a1⟩ := h1
  obtain ⟨f2, rfl, l2, t2, o2, a2⟩ := h2
  refine ⟨f1 ++ f2, by simp, fun f hf => ?_, ?_, ?_, ?_⟩
  · exact (List.mem_append.1 hf).elim (l1 f) (l2 f)
  · simp [t2, t1]
  · simp [o2, o1, List.drop_drop]
  · omega

/-- The answers to come after `q` flushes are those `q` later. -/
theorem Flushes.failsAt {s u : State} {q : Nat} (h : Flushes s u q) (k : Nat) : u.failsAt k = s.failsAt (q + k) := by
  obtain ⟨f, -, -, -, ho, ha⟩ := h
  simp [State.failsAt, State.answerAt, ho, ha, Nat.add_assoc]

theorem flushes_putPixel (s : State) (v : Byte) : Flushes s (s.putPixel v) 0 := by
  rw [putPixel_eq]
  exact flushes_refl s

theorem flushes_frame (s : State) (p : Phase) : Flushes s ((s.after (frameEvents s.frame) 1).inPhase p) 1 :=
  ⟨[s.frame], rfl, by simp, by simp, rfl, rfl⟩

/-- The last pixel of a frame takes the cursor home (R156). -/
theorem putPixel_position_home (s : State) (v : Byte) (h : s.position = 8191) : (s.putPixel v).position = 0 := by
  have hpos : (s.putPixel v).position = (s.position + 1) % 8192 := putPixel_position s v
  rw [hpos, h]

theorem cursor_home_of_position (s : State) (h : s.position = 0) : s.curX = 0 ∧ s.curY = 0 := by
  simp only [State.position, Fin.ext_iff, Fin.val_zero] at h ⊢
  omega

theorem begin_position (s : State) : s.begin.position = s.position := rfl

theorem position_lt (s : State) : s.position < 8192 := by
  have hx := s.curX.isLt
  have hy := s.curY.isLt
  unfold State.position
  omega

/-- One round of WRITE's loop whose flush, if it has one, succeeds: the position moves on by one, frames counted. -/
theorem writePixels_round (v : Byte) (vs : List Byte) (n : Nat) (s : State)
    (hok : s.atFrameEnd = true → s.failsAt 0 = false) :
    ∃ u q, writePixels (v :: vs) n s = writePixels vs (n + 1) u ∧ Flushes s u q ∧
      q * 8192 + u.position = s.position + 1 := by
  cases hend : s.atFrameEnd with
  | false =>
    refine ⟨_, 0, writePixels_inside v vs n s hend, flushes_putPixel s v, ?_⟩
    rw [putPixel_position_succ s v hend, Nat.zero_mul, Nat.zero_add]
  | true =>
    have hlast : s.position = 8191 := s.atFrameEnd_iff.1 hend
    have hhome : (((s.putPixel v).after (frameEvents (s.putPixel v).frame) 1).inPhase .csOff).position = 0 :=
      putPixel_position_home s v hlast
    refine ⟨_, 0 + 1, writePixels_flush v vs n s hend (hok hend),
      (flushes_putPixel s v).trans (flushes_frame _ .csOff), ?_⟩
    rw [hhome, hlast]

/-- WRITE's loop without a failing flush: a flush for each frame it completes, every byte counted (R154, R157). -/
theorem writePixels_flushes (data : List Byte) (n : Nat) (s : State)
    (hok : ∀ k < (s.position + data.length) / 8192, s.failsAt k = false) :
    ∃ u, writePixels data n s = (n + data.length, .ok (), u) ∧
      Flushes s u ((s.position + data.length) / 8192) ∧ u.position = (s.position + data.length) % 8192 := by
  induction data generalizing n s with
  | nil =>
    have hlt := position_lt s
    exact ⟨s, rfl, by simpa [Nat.div_eq_of_lt hlt] using flushes_refl s, (Nat.mod_eq_of_lt hlt).symm⟩
  | cons v vs ih =>
    rw [List.length_cons] at hok ⊢
    obtain ⟨w, q, hround, hw, hpos⟩ := writePixels_round v vs n s fun hend => by
      have hlast : s.position = 8191 := s.atFrameEnd_iff.1 hend
      exact hok 0 (by omega)
    have hdiv : (s.position + (vs.length + 1)) / 8192 = q + (w.position + vs.length) / 8192 := by omega
    obtain ⟨u, hrun, hu, hposu⟩ := ih (n + 1) w fun k hk => by
      rw [hw.failsAt]
      exact hok (q + k) (by omega)
    refine ⟨u, ?_, ?_, ?_⟩
    · rw [hround, hrun, Nat.add_right_comm, Nat.add_assoc]
    · rw [hdiv]
      exact hw.trans hu
    · omega

/-- A WRITE's next state, from what its loop gives. -/
theorem exec_write (data : List Byte) (s u : State) (m : Nat) (res : Except Status Unit) (hb : s.busy = false)
    (h : writePixels data 0 s.begin = (m, res, u)) :
    exec (.write data) s = .next (u.finish { responseOf res with results := .count m }) := by
  rw [exec_wellFormed (.write data) s rfl hb]
  simp only [bodyOf, writeBody, h]

/-- A WRITE without a failing flush (R154, R157). -/
theorem exec_write_flushes (data : List Byte) (s : State) (hb : s.busy = false)
    (hok : ∀ k < (s.position + data.length) / 8192, s.failsAt k = false) :
    ∃ u, writePixels data 0 s.begin = (data.length, .ok (), u) ∧
      exec (.write data) s = .next (u.finish ⟨.ok, .count data.length, []⟩) ∧
      Flushes s u ((s.position + data.length) / 8192) ∧ u.position = (s.position + data.length) % 8192 := by
  obtain ⟨u, hrun, hu, hpos⟩ := writePixels_flushes data 0 s.begin hok
  rw [Nat.zero_add] at hrun
  exact ⟨u, hrun, exec_write data s u _ _ hb hrun, hu, hpos⟩

/-- Settles O34, by the flushes of WRITE's loop. -/
theorem writeFlushesOncePerFrame : Obligations.WriteFlushesOncePerFrame := by
  intro s data hb hok
  obtain ⟨u, -, hexec, ⟨frames, hlen, hbytes, htrace, -, hasked⟩, hpos⟩ := exec_write_flushes data s hb hok
  exact ⟨_, frames, hexec, hlen, hbytes, htrace, hasked, hpos, rfl⟩

/-- Settles O30: short of a frame's end WRITE flushes 0 times. -/
theorem writeInsideAFrameEmitsNothing : Obligations.WriteInsideAFrameEmitsNothing := by
  intro s data hb hlt
  have hdiv := Nat.div_eq_of_lt hlt
  obtain ⟨u, -, hexec, hu, hpos⟩ := exec_write_flushes data s hb (by simp [hdiv])
  rw [hdiv] at hu
  obtain ⟨htrace, horacle, hasked⟩ := hu.nothing
  exact ⟨_, hexec, htrace, horacle, hasked, hpos.trans (Nat.mod_eq_of_lt hlt), rfl⟩

/-! ### A WRITE up to the end of a frame -/

/-- WRITE's loop up to the end of frame `j`, no flush before that one failing: it sends the frame it leaves, and its
status is that flush's (R157, R158). -/
theorem writePixels_frameEnd (data : List Byte) (n j : Nat) (s : State) (hok : ∀ k < j, s.failsAt k = false)
    (hlen : s.position + data.length = (j + 1) * 8192) :
    ∃ u, writePixels data n s = (n + data.length,
        if s.failsAt j then .error (.busTransactionError .xfer) else .ok (),
        (u.after (frameEvents u.frame) 1).inPhase .csOff) ∧
      Flushes s u j ∧ u.position = 0 := by
  have hlt := position_lt s
  obtain rfl | ⟨front, v, rfl⟩ := List.eq_nil_or_concat data
  · simp at hlen
    omega
  simp only [List.concat_eq_append, List.length_append, List.length_singleton] at hlen ⊢
  have hdiv : (s.position + front.length) / 8192 = j := by omega
  obtain ⟨w, hrun, hw, hpos⟩ := writePixels_flushes front n s (hdiv.symm ▸ hok)
  rw [hdiv] at hw
  have hlast : w.position = 8191 := by omega
  have hend : w.atFrameEnd = true := w.atFrameEnd_iff.2 hlast
  have hj : w.failsAt 0 = s.failsAt j := hw.failsAt 0
  refine ⟨w.putPixel v, ?_, hw.trans (flushes_putPixel w v), putPixel_position_home w v hlast⟩
  rw [writePixels_append, hrun]
  dsimp only
  cases hf : s.failsAt j with
  | false => rw [writePixels_flush _ _ _ _ hend (hj.trans hf)]; rfl
  | true => rw [writePixels_flush_fails _ _ _ _ hend (hj.trans hf)]; rfl

/-- Settles O33: frame 0 ends with the last byte, and O31 gives its pixels. -/
theorem fullFrameWritePacksAndFlushesOnce : Obligations.FullFrameWritePacksAndFlushesOnce := by
  intro s data hb hm hx hy hlen
  have hstart : s.position = 0 := by simp [State.position, hx, hy]
  obtain ⟨u, hrun, hu, hhome⟩ :=
    writePixels_frameEnd data 0 0 s.begin (by simp) (by rw [begin_position]; omega)
  obtain ⟨htrace, -, hasked⟩ := hu.nothing
  rw [Nat.zero_add, hlen] at hrun
  have hexec := exec_write data s _ _ _ hb hrun
  obtain ⟨t, ht, hpixel⟩ := writeAssignsTheAddressedPixels s data hb hm (by omega)
  obtain rfl := Host.Outcome.next.inj (hexec.symm.trans ht)
  obtain ⟨hcx, hcy⟩ := cursor_home_of_position u hhome
  refine ⟨_, hexec, fun r c => ?_, congrArg (· ++ frameEvents u.frame) htrace, congrArg (· + 1) hasked, hcx, hcy, ?_⟩
  · refine (hpixel c r).trans ?_
    rw [if_pos (by omega), hstart, Nat.sub_zero]
  · rw [failsAt_begin]
    cases s.failsAt 0 <;> rfl

/-- Settles O35: the bytes up to the end of frame `j` end in its error, and so do those bytes with more after them. -/
theorem failedFlushEndsTheWrite : Obligations.FailedFlushEndsTheWrite := by
  intro s data j hb hok hfail hlen
  have hlt := position_lt s
  generalize hc : (j + 1) * 8192 - s.position = c
  have htake : (data.take c).length = c := List.length_take_of_le (by omega)
  obtain ⟨u, hrun, ⟨frames, -, -, htrace, -, hasked⟩, hhome⟩ :=
    writePixels_frameEnd (data.take c) 0 j s.begin hok (by rw [begin_position]; omega)
  rw [htake, Nat.zero_add, failsAt_begin, hfail, if_pos rfl] at hrun
  have hall := writePixels_append (data.take c) (data.drop c) 0 s.begin
  rw [List.take_append_drop, hrun] at hall
  obtain ⟨hcx, hcy⟩ := cursor_home_of_position u hhome
  refine ⟨_, frames.flatMap frameEvents, exec_write data s _ _ _ hb hall,
    exec_write _ s _ _ _ hb hrun, hcx, hcy, ?_, ?_, rfl⟩
  · exact congrArg (· + 1) hasked
  · exact congrArg (· ++ frameEvents u.frame) htrace

/-! ### Two WRITEs -/

/-- Two states that agree in all but PHASE, BUSY and the response, none of which WRITE's loop reads. -/
def AgreesUpToResponse (s u : State) : Prop :=
  ∃ p b r, u = { s with phase := p, busy := b, response := r }

theorem AgreesUpToResponse.finish {s u : State} (h : AgreesUpToResponse s u) (r : Response) :
    u.finish r = s.finish r := by
  obtain ⟨p, b, r', rfl⟩ := h
  rfl

theorem AgreesUpToResponse.advance {s u : State} (h : AgreesUpToResponse s u) :
    AgreesUpToResponse s.advance u.advance := by
  obtain ⟨p, b, r, rfl⟩ := h
  refine ⟨p, b, r, ?_⟩
  unfold State.advance
  dsimp only
  split_ifs <;> rfl

theorem AgreesUpToResponse.putPixel {s u : State} (h : AgreesUpToResponse s u) (v : Byte) :
    AgreesUpToResponse (s.putPixel v) (u.putPixel v) := by
  obtain ⟨p, b, r, rfl⟩ := h
  exact AgreesUpToResponse.advance ⟨p, b, r, rfl⟩

theorem AgreesUpToResponse.flush {s u : State} (h : AgreesUpToResponse s u) :
    AgreesUpToResponse ((s.after (frameEvents s.frame) 1).inPhase .csOff)
      ((u.after (frameEvents u.frame) 1).inPhase .csOff) := by
  obtain ⟨p, b, r, rfl⟩ := h
  exact ⟨.csOff, b, r, rfl⟩

/-- WRITE's loop goes the same way from two such states, whatever it has counted. -/
theorem writePixels_agrees (data : List Byte) (n m : Nat) (s u : State) (h : AgreesUpToResponse s u) :
    AgreesUpToResponse (writePixels data n s).2.2 (writePixels data m u).2.2 := by
  induction data generalizing n m s u with
  | nil => exact h
  | cons v vs ih =>
    have hend : u.atFrameEnd = s.atFrameEnd := by obtain ⟨p, b, r, rfl⟩ := h; rfl
    have hf : u.failsAt 0 = s.failsAt 0 := by obtain ⟨p, b, r, rfl⟩ := h; rfl
    cases hs : s.atFrameEnd with
    | false =>
      rw [writePixels_inside _ _ _ _ hs, writePixels_inside _ _ _ _ (hend.trans hs)]
      exact ih _ _ _ _ (h.putPixel v)
    | true =>
      cases hf0 : s.failsAt 0 with
      | false =>
        rw [writePixels_flush _ _ _ _ hs hf0, writePixels_flush _ _ _ _ (hend.trans hs) (hf.trans hf0)]
        exact ih _ _ _ _ (h.putPixel v).flush
      | true =>
        rw [writePixels_flush_fails _ _ _ _ hs hf0, writePixels_flush_fails _ _ _ _ (hend.trans hs) (hf.trans hf0)]
        exact (h.putPixel v).flush

/-- Settles O36: the second WRITE starts from the first one's loop state but for the response, and the loop over both
lists runs on from that state. -/
theorem writesCompose : Obligations.WritesCompose := by
  intro s a b hb hok
  obtain ⟨w, hrunA, hexecA, hw, hposw⟩ := exec_write_flushes a s hb fun k hk => hok k (by omega)
  obtain ⟨u, hrunB, hexecB, -⟩ := exec_write_flushes b (w.finish ⟨.ok, .count a.length, []⟩) rfl fun k hk => by
    change k < (w.position + b.length) / 8192 at hk
    change w.failsAt k = false
    rw [hw.failsAt]
    exact hok _ (by omega)
  obtain ⟨v, hrunV, hexecV, -⟩ := exec_write_flushes (a ++ b) s hb (by simpa [Nat.add_assoc] using hok)
  refine ⟨_, _, _, hexecA, hexecB, hexecV, ?_⟩
  have hagree := writePixels_agrees b 0 a.length (w.finish ⟨.ok, .count a.length, []⟩).begin w
    ⟨w.phase, w.busy, w.response, rfl⟩
  rw [writePixels_append, hrunA] at hrunV
  dsimp only at hrunV
  rw [hrunB, hrunV] at hagree
  rw [hagree.finish, List.length_append]
  rfl

end Sys2Proof.Machine

/-! SUPPORT and settlements for the family of spec/41_temp_humidity.md: TH_DECODE (R202, R203) and MEASURE on its three
paths (R201, R204). -/

namespace Sys2Proof.Machine

/-! ### TH_DECODE -/

/-- TH_DECODE with its big-endian raw values as sums (R202, R206). -/
theorem thDecode_eq (b : Reply) : thDecode b =
    (-45 + 175 * ((256 * b.b0.toNat + b.b1.toNat : Nat) : Rat) / 65535,
     -6 + 125 * ((256 * b.b3.toNat + b.b4.toNat : Nat) : Rat) / 65535) := by
  simp only [thDecode, word16_eq]

/-- Bytes 2 and 5 are not read (R203). -/
theorem thDecode_checksum (b : Reply) (c d : Byte) : thDecode { b with b2 := c, b5 := d } = thDecode b := rfl

theorem word16_le (hi lo : Byte) : word16 hi lo ≤ 65535 := by
  have hhi := hi.isLt
  have hlo := lo.isLt
  rw [word16_eq]
  omega

/-- A line over the 16-bit raw values stays between its two anchors. -/
theorem linear_between_anchors (offset span : Rat) (hspan : 0 ≤ span) (raw : Nat) (hraw : raw ≤ 65535) :
    offset ≤ offset + span * raw / 65535 ∧ offset + span * raw / 65535 ≤ offset + span := by
  have hraw' : (raw : Rat) ≤ 65535 := by exact_mod_cast hraw
  have hlow : 0 ≤ span * raw / 65535 := by positivity
  have hhigh : span * raw / 65535 ≤ span := by
    rw [div_le_iff₀ (by norm_num)]
    exact mul_le_mul_of_nonneg_left hraw' hspan
  exact ⟨le_add_of_nonneg_right hlow, add_le_add_right hhigh offset⟩

/-- Settles O41: the formulas, the anchors by computing them, and between the anchors by linearity. -/
theorem conversionsAreInTheirRanges : Obligations.ConversionsAreInTheirRanges := by
  refine ⟨thDecode_eq, ?_, ?_, fun b => ?_⟩
  · norm_num [thDecode_eq]
  · norm_num [thDecode_eq]
  · obtain ⟨htLow, htHigh⟩ := linear_between_anchors (-45) 175 (by norm_num) _ (word16_le b.b0 b.b1)
    obtain ⟨hhLow, hhHigh⟩ := linear_between_anchors (-6) 125 (by norm_num) _ (word16_le b.b3 b.b4)
    exact ⟨⟨htLow, htHigh.trans_eq (by norm_num)⟩, hhLow, hhHigh.trans_eq (by norm_num)⟩

/-! ### MEASURE on its three paths -/

/-- MEASURE's events once its request is answered (R201). -/
def measureEvents (p : Params) : List Event :=
  [.i2cWrite p.thAddr [thCmdMeasure], .delay 10, .i2cRead p.thAddr 6]

/-- A failed request ends MEASURE (R204). -/
theorem measureBody_request_fails (s : State) (h0 : s.failsAt 0 = true) :
    measureBody s = (bare (.busTransactionError .request),
      (s.after [.i2cWrite s.cfg.thAddr [thCmdMeasure]] 1).inPhase .request) := by
  simp only [measureBody, busWrite_eq, h0, if_true, bare]

/-- A failed read ends MEASURE after all three events (R204). -/
theorem measureBody_read_fails (s : State) (h0 : s.failsAt 0 = false) (h1 : s.failsAt 1 = true) :
    measureBody s = (bare (.busTransactionError .read), (s.after (measureEvents s.cfg) 2).inPhase .read) := by
  simp [measureBody, busWrite_eq, delay_eq, busRead_eq, h0, answerAt_of_fails s 1 h1, answerReply, bare,
    measureEvents]

/-- With both calls answered MEASURE decodes the reply (R201). -/
theorem measureBody_reads (s : State) (b : Reply) (h0 : s.failsAt 0 = false) (h1 : s.answerAt 1 = .ok b) :
    measureBody s = (⟨.ok, .measure (roundResult s.cfg.numRound (thDecode b).1)
        (roundResult s.cfg.numRound (thDecode b).2), []⟩,
      (s.after (measureEvents s.cfg) 2).inPhase .decode) := by
  simp [measureBody, busWrite_eq, delay_eq, busRead_eq, h0, h1, answerReply, measureEvents]

theorem exec_measure_idle (s : State) (hb : s.busy = false) :
    exec .measure s = .next ((measureBody s.begin).2.finish (measureBody s.begin).1) :=
  exec_wellFormed .measure s rfl hb

/-- MEASURE with both calls answered: three events and the decoded reply, nothing else (R201). -/
theorem exec_measure_reads (s : State) (b : Reply) (hb : s.busy = false) (h0 : s.failsAt 0 = false)
    (h1 : s.answerAt 1 = .ok b) :
    exec .measure s = .next (s.respond (measureEvents s.cfg) 2
      ⟨.ok, .measure (roundResult s.cfg.numRound (thDecode b).1)
        (roundResult s.cfg.numRound (thDecode b).2), []⟩) := by
  rw [exec_measure_idle s hb, measureBody_reads s.begin b h0 h1]
  rfl

/-- Settles O38: the reply's decoding, with the formulas written out. -/
theorem measureConvertsTheReply : Obligations.MeasureConvertsTheReply := by
  intro s b hb h0 h1
  rw [exec_measure_reads s b hb h0 h1, thDecode_eq]
  rfl

/-- Settles O39: the body's two failing paths. -/
theorem measureStopsAtTheFirstError : Obligations.MeasureStopsAtTheFirstError := by
  refine ⟨fun _ => rfl, fun s hb => ⟨fun h0 => ?_, fun h0 h1 => ?_⟩⟩
  · rw [exec_measure_idle s hb, measureBody_request_fails s.begin h0]
    rfl
  · rw [exec_measure_idle s hb, measureBody_read_fails s.begin h0 h1]
    rfl

/-- MEASURE's response when the coming answers are scripted as a success and a reply. -/
theorem measure_response_of_oracle {s t : State} {a b : Reply} (h : exec .measure s = .next t) (hb : s.busy = false)
    (horacle : s.oracle = [.ok a, .ok b]) :
    t.response = some ⟨.ok, .measure (roundResult s.cfg.numRound (thDecode b).1)
      (roundResult s.cfg.numRound (thDecode b).2), []⟩ := by
  have h0 : s.failsAt 0 = false := by simp [State.failsAt, State.answerAt, horacle, answerFails]
  have h1 : s.answerAt 1 = .ok b := by simp [State.answerAt, horacle]
  rw [exec_measure_reads s b hb h0 h1] at h
  cases h
  rfl

/-- Settles O40: both runs answer with the decoding of their replies, which bytes 2 and 5 do not enter. -/
theorem checksumBytesAreIgnored : Obligations.ChecksumBytesAreIgnored := by
  refine ⟨thDecode_checksum, fun s t u b c d hb horacle ht hu => ?_⟩
  rw [measure_response_of_oracle ht hb horacle, measure_response_of_oracle hu hb rfl, thDecode_checksum]

end Sys2Proof.Machine

/-! SUPPORT and settlements for the family of spec/42_light.md: SETGI (R222), the lux formula's consequences (R227, R228)
and LUX on its error paths (R229, R231). -/

namespace Sys2Proof.Machine

/-! ### SETGI -/

/-- SETGI's body: one write of the control byte, and both values stored iff it succeeded (R222). -/
theorem setGainIntegration_eq (gain : Gain) (itime : Nat) (s : State) :
    setGainIntegration gain itime s =
      let u := (s.after [.i2cWrite s.cfg.lightAddr
        [s.cfg.lightRegControl, controlByte s.cfg.gainCode gain itime]] 1).inPhase .write
      if s.failsAt 0 then (.error (.busTransactionError .write), u) else (.ok (), u.storeGain gain itime) := by
  rw [setGainIntegration, busWrite_eq]
  cases s.failsAt 0 <;> rfl

/-- Settles O42: the body's two outcomes, between the start and the end of a legal operation. -/
theorem setgiStoresBothOrNeither : Obligations.SetgiStoresBothOrNeither := by
  refine ⟨fun gain itime => ⟨_, rfl⟩, fun c => ⟨rfl, rfl, rfl, rfl⟩, fun s gain itime hb hitime => ?_⟩
  have hlegal : (Instr.setgi gain itime).wellFormed = true := decide_eq_true hitime
  rw [exec_wellFormed _ s hlegal hb, bodyOf, plain, setGainIntegration_eq, failsAt_begin]
  cases s.failsAt 0 <;> rfl

/-! ### The lux formula -/

/-- A count on channel 0 weighs at least 100 in the fraction's denominator: one integration step at the lowest gain. -/
theorem luxDenominator_ge (gain : Gain) (itime ch0 : Nat) :
    100 * ch0 ≤ ch0 * integrationMs itime * gainFactor gain := by
  have hms : 100 ≤ integrationMs itime := by unfold integrationMs; omega
  have hfactor : 1 ≤ gainFactor gain := by cases gain <;> decide
  calc 100 * ch0 = ch0 * 100 * 1 := by omega
    _ ≤ ch0 * integrationMs itime * gainFactor gain := by gcongr

/-- For a nonzero channel 0 the square of the difference decides whether the lux is 0 (R227). -/
theorem luxFormula_eq_zero_iff (gain : Gain) (itime ch0 ch1 : Nat) (h : ch0 ≠ 0) :
    luxFormula gain itime ch0 ch1 = 0 ↔ ch0 = ch1 := by
  have hdenom : (ch0 : Rat) * (integrationMs itime : Nat) * (gainFactor gain : Nat) ≠ 0 := by
    have := luxDenominator_ge gain itime ch0
    exact_mod_cast (by omega : ch0 * integrationMs itime * gainFactor gain ≠ 0)
  rw [luxFormula_eq, if_neg h, div_eq_zero_iff, or_iff_left hdenom, mul_eq_zero_iff_left (by norm_num),
    sq_eq_zero_iff, sub_eq_zero, Nat.cast_inj]

theorem luxFormula_nonneg (gain : Gain) (itime ch0 ch1 : Nat) : 0 ≤ luxFormula gain itime ch0 ch1 := by
  rw [luxFormula_eq]
  split_ifs
  · exact le_rfl
  · positivity

/-- With channel 1 at most channel 0 the lux is at most 4.08 a count on channel 0. -/
theorem luxFormula_le (gain : Gain) (itime ch0 ch1 : Nat) (h : ch1 ≤ ch0) :
    luxFormula gain itime ch0 ch1 ≤ 408 / 100 * ch0 := by
  rw [luxFormula_eq]
  split_ifs with h0
  · positivity
  · have hch0 : (0 : Rat) < ch0 := by exact_mod_cast Nat.pos_of_ne_zero h0
    have hdiff : (0 : Rat) ≤ ch0 - ch1 := sub_nonneg.mpr (by exact_mod_cast h)
    have hsquare : ((ch0 : Rat) - ch1) ^ 2 ≤ (ch0 : Rat) ^ 2 :=
      pow_le_pow_left₀ hdiff (sub_le_self _ (Nat.cast_nonneg _)) 2
    have hdenom : 100 * (ch0 : Rat) ≤ ch0 * (integrationMs itime : Nat) * (gainFactor gain : Nat) := by
      exact_mod_cast luxDenominator_ge gain itime ch0
    calc 408 * ((ch0 : Rat) - (ch1 : Rat)) ^ 2 /
          ((ch0 : Rat) * ((integrationMs itime : Nat) : Rat) * ((gainFactor gain : Nat) : Rat))
        ≤ 408 * (ch0 : Rat) ^ 2 / (100 * (ch0 : Rat)) := by gcongr
      _ = 408 / 100 * (ch0 : Rat) := by field_simp

/-- Settles O46: the fraction's square and its denominator, and the largest channel 0. -/
theorem luxFormulaIsNonnegative : Obligations.LuxFormulaIsNonnegative := by
  refine fun gain itime ch0 ch1 => ⟨luxFormula_nonneg gain itime ch0 ch1, fun h => ?_,
    luxFormula_eq_zero_iff gain itime ch0 ch1, fun hle hmax => ?_⟩
  · rw [luxFormula, if_pos h]
  · have hch0 : (ch0 : Rat) ≤ 65535 := by exact_mod_cast hmax
    calc luxFormula gain itime ch0 ch1 ≤ 408 / 100 * ch0 := luxFormula_le gain itime ch0 ch1 hle
      _ ≤ 408 / 100 * 65535 := by gcongr
      _ = 1336914 / 5 := by norm_num

/-! ### LUX's errors -/

/-- LUX on an idle block is its body (R36). -/
theorem exec_lux_idle (s : State) (hb : s.busy = false) :
    exec .lux s = .next ((luxBody s.begin).2.finish (luxBody s.begin).1) :=
  exec_wellFormed .lux s rfl hb

/-- A failed enable ends LUX (R229). -/
theorem luxBody_enable_fails (s : State) (gain : Gain) (itime : Nat) (hg : s.gain = some gain)
    (ht : s.itime = some itime) (h0 : s.failsAt 0 = true) :
    luxBody s = (bare (.busTransactionError .enable),
      (s.after ((luxEvents s.cfg itime).take 1) 1).inPhase .enable) := by
  simp only [luxBody, readLux, hg, ht, luxCycle_enable_fails gain itime s h0, bare]

/-- A failed read ends LUX before the disable (R229). -/
theorem luxBody_read_fails (s : State) (gain : Gain) (itime : Nat) (hg : s.gain = some gain)
    (ht : s.itime = some itime) (h0 : s.failsAt 0 = false) (h1 : s.failsAt 1 = true) :
    luxBody s = (bare (.busTransactionError .read),
      (s.after ((luxEvents s.cfg itime).take 3) 2).inPhase .read) := by
  simp only [luxBody, readLux, hg, ht, luxCycle_read_fails gain itime s h0 h1, bare]

/-- Without a gain LUX ends at once (R231). -/
theorem luxBody_unset (s : State) (hg : s.gain = none) : luxBody s = (bare .configUnset, s) := by
  simp only [luxBody, readLux, hg, bare]

/-- The channels are little-endian (R103). -/
theorem channels_eq (b : Reply) :
    channel0 b = b.b0.toNat + 256 * b.b1.toNat ∧ channel1 b = b.b2.toNat + 256 * b.b3.toNat := by
  simp only [channel0, channel1, word16_eq, Nat.add_comm, and_self]

/-- Settles O44: LUX on its three paths, the third whatever the disable write answers. -/
theorem luxErrorsAndTheDisableStep : Obligations.LuxErrorsAndTheDisableStep := by
  refine ⟨fun _ => rfl, fun s gain itime hb hg ht => ⟨fun h0 => ?_, fun h0 h1 => ?_, fun b h0 h1 => ?_⟩⟩
  · rw [exec_lux_idle s hb, luxBody_enable_fails s.begin gain itime hg ht h0]
    rfl
  · rw [exec_lux_idle s hb, luxBody_read_fails s.begin gain itime hg ht h0 h1]
    rfl
  · rw [exec_lux_reads s gain itime b hb hg ht h0 h1, (channels_eq b).1, (channels_eq b).2]
    rfl

/-- Settles O45: the body stops before its first event (log 3 on the response). -/
theorem luxWithoutGainIsConfigUnset : Obligations.LuxWithoutGainIsConfigUnset := by
  intro s hb hg
  rw [exec_lux_idle s hb, luxBody_unset s.begin hg, finish_begin]

end Sys2Proof.Machine

/-! SUPPORT and settlements for the family of spec/43_dimming.md: the window and how long it holds (R252, R258 to R260),
CONFIG and EVALUATE (R251, R252), and DIMTICK by its two parts, the window step and the lux gate (R253 to R257). -/

namespace Sys2Proof.Machine

/-! ### The window -/

section Window

theorem day0_bounds (now : Int) : day0 now ≤ now ∧ now < day0 now + 86400 := by
  unfold day0
  omega

/-- A boundary of today is still to come iff its time of day is later than that of `now` (R18). -/
theorem lt_day0_add_iff (now tod : Int) : now < day0 now + tod ↔ now % 86400 < tod := by
  unfold day0
  omega

theorem isTimeOfDay_iff (tod : Int) : isTimeOfDay tod = true ↔ 0 ≤ tod ∧ tod < 86400 := by
  simp [isTimeOfDay]

variable (f t now : Int)

theorem windowAt_until_to (h : now < day0 now + t) : windowAt f t now = (true, day0 now + t) :=
  if_pos h

theorem windowAt_until_from (h : day0 now + t ≤ now) (h' : now < day0 now + f) :
    windowAt f t now = (false, day0 now + f) :=
  (if_neg h.not_gt).trans (if_pos h')

theorem windowAt_until_next_to (h : day0 now + t ≤ now) (h' : day0 now + f ≤ now) :
    windowAt f t now = (true, day0 now + t + 86400) :=
  (if_neg h.not_gt).trans (if_neg h'.not_gt)

/-- WINDOW by the three places `now` can have in its day (R252). -/
theorem windowAt_cases :
    (now < day0 now + t ∧ windowAt f t now = (true, day0 now + t)) ∨
    (day0 now + t ≤ now ∧ now < day0 now + f ∧ windowAt f t now = (false, day0 now + f)) ∨
    (day0 now + t ≤ now ∧ day0 now + f ≤ now ∧ windowAt f t now = (true, day0 now + t + 86400)) := by
  rcases lt_or_ge now (day0 now + t) with h | h
  · exact .inl ⟨h, windowAt_until_to f t now h⟩
  · rcases lt_or_ge now (day0 now + f) with h' | h'
    · exact .inr (.inl ⟨h, h', windowAt_until_from f t now h h'⟩)
    · exact .inr (.inr ⟨h, h', windowAt_until_next_to f t now h h'⟩)

/-- The window is active before TO and from FROM on, whatever their order (R258). -/
theorem windowAt_active_iff : (windowAt f t now).1 = true ↔ now % 86400 < t ∨ f ≤ now % 86400 := by
  rw [← lt_day0_add_iff now t, ← not_lt, ← lt_day0_add_iff now f]
  obtain ⟨h, hw⟩ | ⟨h, h', hw⟩ | ⟨-, h', hw⟩ := windowAt_cases f t now
  · simp [hw, h]
  · simp [hw, h, h']
  · simp [hw, h']

/-- The boundary is later than `now` (R259), and at most a day later. -/
theorem windowAt_boundary (hf : f < 86400) (ht : 0 ≤ t ∧ t < 86400) :
    now < (windowAt f t now).2 ∧ (windowAt f t now).2 ≤ now + 86400 := by
  have hday := day0_bounds now
  obtain ⟨h, hw⟩ | ⟨-, h, hw⟩ | ⟨h, -, hw⟩ := windowAt_cases f t now <;>
    (simp only [hw]; omega)

/-- Until its boundary the window is the same: `later` is on the same day, or, past TO and FROM, perhaps on the next
day before TO. -/
theorem windowAt_held (later : Int) (hf : f < 86400) (ht : 0 ≤ t ∧ t < 86400) (hle : now ≤ later)
    (hlt : later < (windowAt f t now).2) : windowAt f t later = windowAt f t now := by
  have hsame (h : later < day0 now + 86400) : day0 later = day0 now := by
    unfold day0 at *
    omega
  obtain ⟨h, hw⟩ | ⟨h, h', hw⟩ | ⟨h, h', hw⟩ := windowAt_cases f t now <;> rw [hw] at hlt ⊢ <;> dsimp only at hlt
  · have hday := hsame (by omega)
    rw [windowAt_until_to f t later (by omega), hday]
  · have hday := hsame (by omega)
    rw [windowAt_until_from f t later (by omega) (by omega), hday]
  · rcases lt_or_ge later (day0 now + 86400) with hlater | hlater
    · have hday := hsame hlater
      rw [windowAt_until_next_to f t later (by omega) (by omega), hday]
    · have hday : day0 later = day0 now + 86400 := by
        unfold day0 at *
        omega
      rw [windowAt_until_to f t later (by omega), hday, add_right_comm]

end Window

/-- Settles O49: with TO before FROM or not, the window is active outside TO..FROM. -/
theorem windowHoldsUntilItsBoundary : Obligations.WindowHoldsUntilItsBoundary := by
  intro f t now hf ht
  rw [isTimeOfDay_iff] at hf ht
  obtain ⟨hlater, hday⟩ := windowAt_boundary f t now hf.2 ht
  exact ⟨fun _ => windowAt_active_iff f t now, fun hle => (windowAt_active_iff f t now).mpr (by omega), hlater, hday,
    fun later => windowAt_held f t now later hf.2 ht⟩

/-! ### CONFIG and EVALUATE -/

/-- Settles O47: its boundaries being legal, CONFIG is its one write (R251). -/
theorem configLoadsTheWindow : Obligations.ConfigLoadsTheWindow := by
  refine ⟨fun _ _ _ => ⟨_, rfl⟩, fun s f t q hb hf hf' ht ht' => ?_⟩
  have hlegal : (Instr.config f t q).wellFormed = true := by
    simp only [Instr.wellFormed, Bool.and_eq_true, isTimeOfDay_iff]
    exact ⟨⟨hf, hf'⟩, ht, ht'⟩
  rw [exec_wellFormed _ s hlegal hb, ← finish_begin]
  rfl

theorem evaluateBody_configured (now f t : Int) (s : State) (hf : s.fromTod = some f) (ht : s.toTod = some t) :
    evaluateBody now s = (⟨.ok, .window (windowAt f t now).2 (windowAt f t now).1, []⟩, s) := by
  simp only [evaluateBody, hf, ht]

theorem evaluateBody_unset (now : Int) (s : State) (hf : s.fromTod = none) :
    evaluateBody now s = (bare .configUnset, s) := by
  simp only [evaluateBody, hf]
  rfl

/-- Settles O48: the body's response with WINDOW written out, case by case (log 3 on the response without CONFIG). -/
theorem evaluateIsTheWindowFunction : Obligations.EvaluateIsTheWindowFunction := by
  refine ⟨fun _ => ⟨_, rfl⟩, fun s now hb => ⟨fun f t hf ht => ?_, fun hf => ?_⟩⟩
  · rw [exec_wellFormed _ s rfl hb, bodyOf, evaluateBody_configured now f t s.begin hf ht, finish_begin]
    have hcases := windowAt_cases f t now
    unfold day0 at hcases
    obtain ⟨h, hw⟩ | ⟨h, h', hw⟩ | ⟨h, h', hw⟩ := hcases
    · rw [hw, if_pos h]
    · rw [hw, if_neg h.not_gt, if_pos h']
    · rw [hw, if_neg h.not_gt, if_neg h'.not_gt]
  · rw [exec_wellFormed _ s rfl hb, bodyOf, evaluateBody_unset now s.begin hf, finish_begin]

/-! ### DIMTICK's window step -/

/-- Before the boundary the window is held (R253). -/
theorem windowStep_held (f t now ne : Int) (s : State) (hne : s.nextEval = .time ne) (h : now < ne) :
    windowStep f t now s = (ne, [], s) := by
  simp only [windowStep, hne, if_neg h.not_ge]

/-- Once due it is recomputed (R253). -/
theorem windowStep_due (f t now : Int) (s : State) (h : s.Due now) :
    windowStep f t now s = recomputeWindow f t now s := by
  obtain hne | ⟨t', hne, hle⟩ := h
  · simp only [windowStep, hne]
  · simp only [windowStep, hne, if_pos hle]

/-- A recompute with no forced ON: from inactive, or into active (R255). -/
theorem recomputeWindow_quiet (f t now ne : Int) (active : Bool) (s : State)
    (hw : windowAt f t now = (active, ne)) (h : s.luxActive = false ∨ active = true) :
    recomputeWindow f t now s = (ne, [], s.setWindow active ne) := by
  obtain h | h := h <;> simp [recomputeWindow, hw, h]

/-- A recompute that leaves the active state (R255). -/
theorem recomputeWindow_leaving (f t now ne : Int) (s : State)
    (hw : windowAt f t now = (false, ne)) (h : s.luxActive = true) :
    recomputeWindow f t now s = (ne, powerCommand true (s.setWindow false ne)) := by
  simp [recomputeWindow, hw, h, forceOn]

theorem setWindow_self (s : State) (active : Bool) (ne : Int) (hne : s.nextEval = .time ne)
    (h : s.luxActive = active) : s.setWindow active ne = s := by
  simp only [State.setWindow, ← hne, ← h]

/-- The window step into or within the active state, held or recomputed. -/
theorem windowStep_active (f t now ne : Int) (s : State) (h : s.ActiveUntil f t now ne) :
    windowStep f t now s = (ne, [], s.setWindow true ne) := by
  obtain ⟨hne, hlt, hact⟩ | ⟨hdue, hw⟩ := h
  · rw [windowStep_held f t now ne s hne hlt, setWindow_self s true ne hne hact]
  · rw [windowStep_due f t now s hdue, recomputeWindow_quiet f t now ne true s hw (.inr rfl)]

/-- The window step stores the boundary it returns. -/
theorem windowStep_nextEval (f t now : Int) (s : State) :
    (windowStep f t now s).2.2.nextEval = .time (windowStep f t now s).1 := by
  have hrecompute : (recomputeWindow f t now s).2.2.nextEval = .time (recomputeWindow f t now s).1 := by
    unfold recomputeWindow
    dsimp only
    split
    · rw [forceOn, powerCommand_eq]
      rfl
    · rfl
  unfold windowStep
  split
  · exact hrecompute
  · next hne =>
    split
    · exact hrecompute
    · exact hne

/-! ### DIMTICK's power commands and lux gate -/

/-- A power command in the terms of the statements: its status logged, the flag by the policy (R257). -/
theorem powerCommand_status (wanted : Bool) (s : State) (st : Status)
    (hst : st = commandStatus (s.failsAt 0) (s.failsAt 1) (s.failsAt 2)) :
    powerCommand wanted s = (logOf st,
      ((s.after (commandTrace s.cfg [powerByte wanted] (s.failsAt 0)) (commandCalls (s.failsAt 0))).inPhase
        (if s.failsAt 0 then .dcCmd else .dcData)).setDisplayOn (flagAfter s st wanted)) := by
  have hlog : logged (ranOf st) = logOf st := by cases st <;> rfl
  have hflag : powerFlagAfter s.cfg.pwrFlagPolicy (ranOf st) wanted s.displayOn = flagAfter s st wanted := by
    unfold flagAfter
    cases st <;> cases s.cfg.pwrFlagPolicy <;> rfl
  rw [powerCommand_eq, ← hst, hlog, hflag]

/-- A power command after a run of events: its own run of events follows on. -/
theorem powerCommand_after (wanted : Bool) (s : State) (evs : List Event) (k : Nat) (p : Phase) (st : Status)
    (hst : st = commandStatus (s.failsAt k) (s.failsAt (k + 1)) (s.failsAt (k + 2))) :
    powerCommand wanted ((s.after evs k).inPhase p) = (logOf st,
      ((s.after (evs ++ commandTrace s.cfg [powerByte wanted] (s.failsAt k))
          (k + commandCalls (s.failsAt k))).inPhase
        (if s.failsAt k then .dcCmd else .dcData)).setDisplayOn (flagAfter s st wanted)) := by
  rw [powerCommand_status wanted _ st (by simpa using hst)]
  simp only [after_phase, State.after_after, inPhase_inPhase, failsAt_phase, failsAt_after, Nat.add_zero]
  rfl

section LuxRead

variable (q : Rat) (s : State) (gain : Gain) (itime : Nat) (hg : s.gain = some gain) (ht : s.itime = some itime)

include hg ht

/-- A failed enable ends the gate (R229, R256). -/
theorem luxGate_enable_fails (h0 : s.failsAt 0 = true) :
    luxGate q s = ([.busTransactionError .enable],
      (s.after ((luxEvents s.cfg itime).take 1) 1).inPhase .enable) := by
  simp only [luxGate, readLux, hg, ht, luxCycle_enable_fails gain itime s h0]

/-- A failed read ends the gate (R229, R256). -/
theorem luxGate_read_fails (h0 : s.failsAt 0 = false) (h1 : s.failsAt 1 = true) :
    luxGate q s = ([.busTransactionError .read],
      (s.after ((luxEvents s.cfg itime).take 3) 2).inPhase .read) := by
  simp only [luxGate, readLux, hg, ht, luxCycle_read_fails gain itime s h0 h1]

/-- A lux read in the channels' sums (R224, R227). -/
theorem readLux_reads (lux : Rat) (b : Reply) (h0 : s.failsAt 0 = false) (h1 : s.answerAt 1 = .ok b)
    (hlux : lux = roundResult s.cfg.numRound (luxFormula gain itime (b.b0.toNat + 256 * b.b1.toNat)
      (b.b2.toNat + 256 * b.b3.toNat))) :
    readLux s = (.ok lux, (s.after (luxEvents s.cfg itime) 3).inPhase .compute) := by
  simp only [readLux, hg, ht, luxCycle_reads gain itime s b h0 h1, channels_eq, ← hlux]

end LuxRead

section Decision

variable {q lux : Rat} {s u : State} (hread : readLux s = (.ok lux, u))

include hread

/-- Strictly below the threshold a display that is on is sent OFF (R256). -/
theorem luxGate_off (hlt : lux < q) (hon : u.displayOn = true) : luxGate q s = powerCommand false u := by
  simp only [luxGate, hread, if_pos hlt, if_pos hon]

/-- At or above it a display that is off is sent ON (R256). -/
theorem luxGate_on (hge : q ≤ lux) (hoff : u.displayOn = false) : luxGate q s = powerCommand true u := by
  simp only [luxGate, hread, if_neg hge.not_gt, hoff, Bool.false_eq_true, if_false]

/-- Otherwise nothing more is sent (R256). -/
theorem luxGate_stays (hoff : ¬(lux < q ∧ u.displayOn = true)) (hon : ¬(q ≤ lux ∧ u.displayOn = false)) :
    luxGate q s = ([], u) := by
  simp only [luxGate, hread]
  rcases lt_or_ge lux q with hlt | hge
  · rw [if_pos hlt, if_neg fun h => hoff ⟨hlt, h⟩]
  · rw [if_neg hge.not_gt, if_pos (Bool.of_not_eq_false fun h => hon ⟨hge, h⟩)]

end Decision

/-- The gate moves no boundary. -/
theorem luxGate_nextEval (q : Rat) (s : State) : (luxGate q s).2.nextEval = s.nextEval := by
  refine luxGate_keeps (Q := fun u => u.nextEval = s.nextEval) (fun u hu => ?_) (fun wanted u hu => ?_) q s rfl
  · obtain ⟨evs, p, hread, -⟩ := readLux_onlyBus u
    rw [hread]
    exact hu
  · rw [powerCommand_eq]
    exact hu

/-! ### DIMTICK -/

/-- DIMTICK that is not configured has no effect (R254). -/
theorem dimtickBody_unset (now : Int) (s : State) (h : s.fromTod = none ∨ s.gain = none) :
    dimtickBody now s = (bare .configUnset, s) := by
  unfold dimtickBody
  split
  · next hf _ _ hg _ => simp [hf, hg] at h
  · rfl

/-- Settles O50 (log 3 on the response). -/
theorem dimtickUnconfiguredIsConfigUnset : Obligations.DimtickUnconfiguredIsConfigUnset := by
  intro s now hb h
  rw [exec_wellFormed _ s rfl hb, bodyOf, dimtickBody_unset now s.begin h, finish_begin]

section Configured

variable {s : State} {f d : Int} {q : Rat} {gain : Gain} {itime : Nat}
  (hb : s.busy = false) (hconf : s.Configured f d q gain itime)

include hb hconf

/-- A configured DIMTICK is a tick (R254). -/
theorem exec_dimtick (now : Int) :
    exec (.dimtick now) s = .next ((tick f d q now s.begin).2.finish (tick f d q now s.begin).1) := by
  obtain ⟨hf, hd, hq, hg, ht⟩ := hconf
  have hbody : dimtickBody now s.begin = tick f d q now s.begin := by
    simp only [dimtickBody, State.begin, hf, hd, hq, hg, ht]
  rw [exec_wellFormed _ s rfl hb, bodyOf, hbody]

/-- A tick that is inactive after its window step ends with it (R254). -/
theorem exec_dimtick_inactive (now ne : Int) (log : List Status) (u : State)
    (hstep : windowStep f d now s.begin = (ne, log, u)) (hu : u.luxActive = false) :
    exec (.dimtick now) s = .next (u.finish ⟨.ok, .tick ne false u.displayOn, log⟩) := by
  rw [exec_dimtick hb hconf]
  simp [tick, hstep, hu]

/-- A tick that is active after its window step has the gate's log, flags and state (R254, R256). -/
theorem exec_dimtick_active (now ne : Int) (hact : s.ActiveUntil f d now ne) (log : List Status) (u : State)
    (hgate : luxGate q (s.begin.setWindow true ne) = (log, u)) :
    exec (.dimtick now) s = .next (u.finish ⟨.ok, .tick ne u.luxActive u.displayOn, log⟩) := by
  have hstep : windowStep f d now s.begin = (ne, [], s.begin.setWindow true ne) :=
    windowStep_active f d now ne s.begin hact
  rw [exec_dimtick hb hconf]
  simp [tick, hstep, hgate]

end Configured

/-- Settles O51: a tick's own status is `ok`, and its gate keeps the boundary its window step stored. -/
theorem dimtickConfiguredIsAlwaysOk : Obligations.DimtickConfiguredIsAlwaysOk := by
  intro s now f d q gain itime hb hconf
  refine ⟨_, (windowStep f d now s.begin).1, _, exec_dimtick hb hconf now, ?_, rfl⟩
  have hstep := windowStep_nextEval f d now s.begin
  rw [State.finish_nextEval, tick]
  dsimp only
  split
  · exact (luxGate_nextEval q _).trans hstep
  · exact hstep

/-- Settles O52: the window step, held or recomputed with no forced ON, is all of it. -/
theorem dimtickInactiveIsQuiet : Obligations.DimtickInactiveIsQuiet := by
  intro s now f d ne q gain itime hb hconf hact
  refine ⟨fun hne hlt => ?_, fun hdue hw => ?_⟩
  · rw [exec_dimtick_inactive hb hconf now ne [] _ (windowStep_held f d now ne s.begin hne hlt) hact, finish_begin]
    rfl
  · have hstep : windowStep f d now s.begin = (ne, [], s.begin.setWindow false ne) := by
      rw [windowStep_due f d now s.begin hdue, recomputeWindow_quiet f d now ne false s.begin hw (.inl hact)]
    rw [exec_dimtick_inactive hb hconf now ne [] _ hstep rfl, ← finish_begin]
    rfl

/-- Settles O53: the window step with its forced ON is all of it. -/
theorem dimtickLeavingActiveForcesOn : Obligations.DimtickLeavingActiveForcesOn := by
  intro s now f d ne q gain itime st hb hconf hact hdue hw hst
  have hstep := windowStep_due f d now s.begin hdue
  rw [recomputeWindow_leaving f d now ne s.begin hw hact,
    powerCommand_status true (s.begin.setWindow false ne) st hst] at hstep
  rw [exec_dimtick_inactive hb hconf now ne _ _ hstep rfl]
  rfl

/-- Settles O54: the gate ends with its failed lux read. -/
theorem dimtickLuxFailureSkipsTheDecision : Obligations.DimtickLuxFailureSkipsTheDecision := by
  intro s now f d ne q gain itime hb hconf hact
  have ⟨_, _, _, hg, ht⟩ := hconf
  refine ⟨fun h0 => ?_, fun h0 h1 => ?_⟩
  · have hgate := luxGate_enable_fails q (s.begin.setWindow true ne) gain itime hg ht h0
    rw [exec_dimtick_active hb hconf now ne hact _ _ hgate]
    rfl
  · have hgate := luxGate_read_fails q (s.begin.setWindow true ne) gain itime hg ht h0 h1
    rw [exec_dimtick_active hb hconf now ne hact _ _ hgate]
    rfl

/-- Settles O55: the gate's decision on the lux read, with a power command's events after LUX's. -/
theorem dimtickGatesByTheThreshold : Obligations.DimtickGatesByTheThreshold := by
  intro s now f d ne q lux gain itime b st hb hconf hact h0 h1 hlux hst
  have ⟨_, _, _, hg, ht⟩ := hconf
  have hread := readLux_reads (s.begin.setWindow true ne) gain itime hg ht lux b h0 h1 hlux
  have hpower (wanted : Bool) :=
    powerCommand_after wanted (s.begin.setWindow true ne) (luxEvents s.cfg itime) 3 .compute st hst
  split_ifs with hoff hon
  · have hgate := (luxGate_off hread hoff.1 hoff.2).trans (hpower false)
    rw [exec_dimtick_active hb hconf now ne hact _ _ hgate]
    rfl
  · have hgate := (luxGate_on hread hon.1 hon.2).trans (hpower true)
    rw [exec_dimtick_active hb hconf now ne hact _ _ hgate]
    rfl
  · rw [exec_dimtick_active hb hconf now ne hact _ _ (luxGate_stays hread hoff hon)]
    rfl

end Sys2Proof.Machine

/-! SUPPORT and settlement for the family of spec/60_exceptions.md: an operation that runs is not answered `Refused`
(R311), so a well-formed request on an idle block always completes (R312, R315). -/

namespace Sys2Proof.Machine

/-! ### The outcomes of the transfers -/

/-- An outcome gives a response's status unless it is itself a refusal. -/
theorem responseOf_status_ne_refused {res : Except Status Unit} (h : res ≠ .error .refused) :
    (responseOf res).status ≠ .refused := by
  cases res with
  | ok => exact Status.noConfusion
  | error st => exact fun hst => h (congrArg Except.error hst)

theorem ranOf_ne_refused {st : Status} (h : st ≠ .refused) : ranOf st ≠ .error .refused := by
  cases st with
  | refused => exact absurd rfl h
  | _ => simp [ranOf]

theorem commandStatus_ne_refused (f0 f1 f2 : Bool) : commandStatus f0 f1 f2 ≠ .refused := by
  revert f0 f1 f2; decide

theorem hwResetStatus_ne_refused (f0 f1 f2 : Bool) : hwResetStatus f0 f1 f2 ≠ .refused := by
  revert f0 f1 f2; decide

theorem writeCmd_ne_refused (l : List Byte) (s : State) : (writeCmd l s).1 ≠ .error .refused := by
  rw [writeCmd_eq]
  exact ranOf_ne_refused (commandStatus_ne_refused _ _ _)

/-- INIT ends with its reset pulse, or with the WRITECMD after it (R152). -/
theorem initDisplay_ne_refused (s : State) : (initDisplay s).1 ≠ .error .refused := by
  by_cases h : hwResetStatus (s.failsAt 0) (s.failsAt 1) (s.failsAt 2) = .ok
  · obtain ⟨h0, h1, h2⟩ := (hwResetStatus_eq_ok_iff _ _ _).1 h
    rw [initDisplay_pulsed s h0 h1 h2]
    exact ranOf_ne_refused (commandStatus_ne_refused _ _ _)
  · rw [initDisplay_pulse_fails s h]
    exact ranOf_ne_refused (hwResetStatus_ne_refused _ _ _)

theorem sendFrame_ne_refused (s : State) : (sendFrame s).1 ≠ .error .refused := by
  rw [sendFrame_eq]
  cases s.failsAt 0 <;> simp

/-- WRITE's loop ends with the data, or with a flush's bus error (R158). -/
theorem writePixels_ne_refused (data : List Byte) (n : Nat) (s : State) :
    (writePixels data n s).2.1 ≠ .error .refused := by
  induction data generalizing n s with
  | nil => simp [writePixels]
  | cons v vs ih =>
    cases hend : s.atFrameEnd with
    | false => rw [writePixels_inside v vs n s hend]; exact ih _ _
    | true =>
      cases hf : s.failsAt 0 with
      | false => rw [writePixels_flush v vs n s hend hf]; exact ih _ _
      | true => simp [writePixels_flush_fails v vs n s hend hf]

theorem setGainIntegration_ne_refused (gain : Gain) (itime : Nat) (s : State) :
    (setGainIntegration gain itime s).1 ≠ .error .refused := by
  rw [setGainIntegration_eq]
  cases s.failsAt 0 <;> simp

/-- A lux read ends with a bus error, a lux, or ConfigUnset (R229, R231). -/
theorem readLux_ne_refused (s : State) : (readLux s).1 ≠ .error .refused := by
  unfold readLux
  split
  · next gain itime _ _ =>
    obtain ⟨-, h⟩ | ⟨-, -, h⟩ | ⟨_, -, -, h⟩ := luxCycle_cases gain itime s <;> simp [h]
  · simp

/-! ### The status of every body -/

theorem measureBody_status_ne_refused (s : State) : (measureBody s).1.status ≠ .refused := by
  cases h0 : s.failsAt 0 with
  | true => simp [measureBody_request_fails s h0, bare]
  | false =>
    cases h1 : s.failsAt 1 with
    | true => simp [measureBody_read_fails s h0 h1, bare]
    | false =>
      obtain ⟨b, hb⟩ := answerAt_of_not_fails s 1 h1
      simp [measureBody_reads s b h0 hb]

theorem luxBody_status_ne_refused (s : State) : (luxBody s).1.status ≠ .refused := by
  have hread := readLux_ne_refused s
  unfold luxBody
  split
  · next heq =>
    rw [heq] at hread
    exact fun hst => hread (congrArg Except.error hst)
  · exact Status.noConfusion

theorem evaluateBody_status_ne_refused (now : Int) (s : State) : (evaluateBody now s).1.status ≠ .refused := by
  unfold evaluateBody
  split <;> exact Status.noConfusion

/-- A tick's own status is `ok`: its errors are logged (R254, R257). -/
theorem dimtickBody_status_ne_refused (now : Int) (s : State) : (dimtickBody now s).1.status ≠ .refused := by
  unfold dimtickBody
  split <;> exact Status.noConfusion

/-- The one lemma on all bodies: `Refused` is decided before a body runs, never by it (R311). -/
theorem bodyOf_status_ne_refused (i : Instr) (s : State) : (bodyOf i s).1.status ≠ .refused := by
  cases i with
  | init => exact responseOf_status_ne_refused (initDisplay_ne_refused s)
  | write data => exact responseOf_status_ne_refused (writePixels_ne_refused data 0 s)
  | display => exact responseOf_status_ne_refused (sendFrame_ne_refused s)
  | on => exact responseOf_status_ne_refused (writeCmd_ne_refused _ s)
  | off => exact responseOf_status_ne_refused (writeCmd_ne_refused _ s)
  | measure => exact measureBody_status_ne_refused s
  | setgi gain itime => exact responseOf_status_ne_refused (setGainIntegration_ne_refused gain itime s)
  | lux => exact luxBody_status_ne_refused s
  | evaluate now => exact evaluateBody_status_ne_refused now s
  | dimtick now => exact dimtickBody_status_ne_refused now s
  | _ => exact Status.noConfusion

/-! ### Every operation completes -/

/-- Settles O14: a legal operation on an idle block is its body between start and end, and no body refuses. -/
theorem everyOperationReturnsToIdle : Obligations.EveryOperationReturnsToIdle := by
  intro i s hi hb
  exact ⟨_, _, exec_wellFormed i s hi hb, rfl, rfl, rfl, bodyOf_status_ne_refused i s.begin⟩

end Sys2Proof.Machine

/-! SUPPORT and settlement for the family of spec/70_reset_and_hazards.md: the wait for the host's first request (R341). -/

namespace Sys2Proof.Machine

/-- An empty bench and an empty list leave nothing to fetch (log 4, log 6). -/
theorem fetch_idle (s : State) (hb : s.bench = none) (hr : s.requests = []) : s.fetch = none := by
  simp [State.fetch, hb, hr]

/-- Settles O9: with nothing to fetch a step waits, and reset is such a state. -/
theorem idleBlockWaitsForTheHost : Obligations.IdleBlockWaitsForTheHost := by
  have hwaits (s : State) (hb : s.bench = none) (hr : s.requests = []) : step s = .next s :=
    step_waits s (fetch_idle s hb hr)
  exact ⟨hwaits, hwaits .reset rfl rfl⟩

end Sys2Proof.Machine
